-- ==== Sys2Proof/Word.lean ====
section
/-!
DEFINITION. The widths of the CPDR Mixer (spec/00_scope.md R6 and section 4; spec/30_encoding.md R30): names for the
bit vectors the spec treats as bits. Arithmetic on them is BitVec's own, which wraps modulo 2^32 (spec/41_advance.md R55).
-/

namespace Sys2Proof

/-- A byte, unsigned, 0 to 255 (spec/92_eei_decisions.md D13). -/
abbrev Byte := BitVec 8

/-- A lane, a drawn word, `RSP_WORD` or `CMD_WORD`: 32 bits. A lane is read as two's complement where its sign
matters (spec/10_state.md R19; PRESUMED by the spec itself, log entry 9). -/
abbrev Word := BitVec 32

/-- The operand port `CMD_DATA`, and the 128-bit identifier it carries for `SEED128`. -/
abbrev Data := BitVec 128

/-- A 64-bit seed or a tick: eight bytes, `t[0]` the least significant. -/
abbrev Seed64 := BitVec 64

end Sys2Proof
end

