-- ==== Sys2Proof/Syntax.lean ====
section
/-!
DEFINITION. The six commands of the CPDR Mixer (spec/30_encoding.md R32, R95), one constructor per row of
spec/opcode_table.json, each with its operand as R34 assembles it. Operand bits a command does not name are no part of
it: they are dropped at decode (spec/93_implementation_defined.md U14; log entry 15).
-/

namespace Sys2Proof

/-- The commands. The lanes are implicit operands of every command (R31), so no constructor names a register. -/
inductive Instr where
  /-- `SEED128`: the 128-bit identifier, byte `b[k]` in bits `[8k+7:8k]` (R22, R41). -/
  | seed128 (ident : Data)
  /-- `SEED64`: the optional 64-bit seed. `none` is `M = 1` (`SEED64.T`): the seed is absent and the tick is
  substituted; a supplied zero is a seed like any other (R33, R43). -/
  | seed64 (seed : Option Seed64)
  /-- `SEED32`: the 32-bit seed; zero means "no seed" (R44). -/
  | seed32 (seed : Word)
  /-- `NEXT`; `positiveOnly` is `M = 1` (`NEXT.P`) (R33, R54). -/
  | next (positiveOnly : Bool)
  /-- `FILL`: the buffer length, a natural number, `u(CMD_DATA[31:0])` (R34, R61). -/
  | fill (length : Nat)
  /-- `GEN`: the requested length, a signed integer, `s(CMD_DATA[31:0])` (R34, R62). -/
  | gen (length : Int)
  deriving DecidableEq, Repr

end Sys2Proof
end

