-- ==== Sys2Proof/WellFormed.lean ====
section
/-!
DEFINITION. Which commands an operand port can carry: the two lengths stand in 32 bits of `CMD_DATA`, `FILL`'s
unsigned and `GEN`'s signed (spec/30_encoding.md R34; spec/92_eei_decisions.md D11, D12). Every other operand fits its
field by its type. The rules themselves do not depend on these bounds (D11): the meanings are given for every length.
-/

namespace Sys2Proof

/-- A `FILL` length the port can carry: 0 to 2^32 - 1. -/
def fillLengthFits (n : Nat) : Bool := decide (n < 2 ^ 32)

/-- A `GEN` length the port can carry: -2^31 to 2^31 - 1. -/
def genLengthFits (n : Int) : Bool := decide (-2 ^ 31 ≤ n) && decide (n < 2 ^ 31)

/-- The command can be put on `CMD_WORD` and `CMD_DATA`. -/
def wellFormed : Instr → Bool
  | .seed128 _ => true
  | .seed64 _ => true
  | .seed32 _ => true
  | .next _ => true
  | .fill n => fillLengthFits n
  | .gen n => genLengthFits n

end Sys2Proof
end

