-- ==== Sys2Proof/Decode.lean ====
section
/-!
DEFINITION. The decoder, total on every `CMD_WORD` and `CMD_DATA` and rejecting by name (spec/30_encoding.md R31 to
R35), then the encoder, written from the same table (R32, R37), then the host's reading of a table row.
-/

namespace Sys2Proof

/-! ### The fields of the command word (R31) -/

/-- `OP`, bits `[7:0]`. -/
def opField (w : Word) : Byte := w.extractLsb' 0 8

/-- `M`, bit 8. -/
def mField (w : Word) : Bool := w.getLsbD 8

/-- `RSV`, bits `[31:9]`, reserved, must be zero. -/
def rsvField (w : Word) : BitVec 23 := w.extractLsb' 9 23

/-! ### The decoder -/

/-- Why a command word is illegal (R35). All three are answered alike, with status `IllegalCommand`. -/
inductive Illegal where
  /-- `RSV` is not zero. -/
  | reservedBits
  /-- `M = 1` and `OP` has no modifier. -/
  | strayModifier
  /-- `OP` is `0x00` or in `0x07..0xFF`. -/
  | reservedOp
  deriving DecidableEq, Repr

/-- A command whose `OP` has no modifier: `M` must be 0 (R33). -/
def noModifier (m : Bool) (i : Instr) : Except Illegal Instr :=
  if m then .error .strayModifier else .ok i

/-- The opcode map (R32) with the operand assembly of each command (R34). -/
def decodeOp (op : Byte) (m : Bool) (d : Data) : Except Illegal Instr :=
  if op = 0x01#8 then noModifier m (.seed128 d)
  else if op = 0x02#8 then .ok (.seed64 (if m then none else some (d.extractLsb' 0 64)))
  else if op = 0x03#8 then noModifier m (.seed32 (d.extractLsb' 0 32))
  else if op = 0x04#8 then .ok (.next m)
  else if op = 0x05#8 then noModifier m (.fill (d.extractLsb' 0 32).toNat)
  else if op = 0x06#8 then noModifier m (.gen (d.extractLsb' 0 32).toInt)
  else .error .reservedOp

/-- The command on the ports, or why the word is illegal (R35: total). -/
def decode (w : Word) (d : Data) : Except Illegal Instr :=
  if rsvField w = 0#23 then decodeOp (opField w) (mField w) d else .error .reservedBits

/-! ### The encoder -/

/-- The command word of a command (R32: the eight legal words). -/
def encodeWord : Instr → Word
  | .seed128 _ => 0x00000001#32
  | .seed64 (some _) => 0x00000002#32
  | .seed64 none => 0x00000102#32
  | .seed32 _ => 0x00000003#32
  | .next false => 0x00000004#32
  | .next true => 0x00000104#32
  | .fill _ => 0x00000005#32
  | .gen _ => 0x00000006#32

/-- What the syntax table puts on `CMD_DATA` for a command (R37: zero where it is ignored). -/
def encodeData : Instr → Data
  | .seed128 ident => ident
  | .seed64 (some v) => v.setWidth 128
  | .seed64 none => 0#128
  | .seed32 v => v.setWidth 128
  | .next _ => 0#128
  | .fill n => (BitVec.ofNat 32 n).setWidth 128
  | .gen n => (BitVec.ofInt 32 n).setWidth 128

/-- The words of a command: `CMD_WORD` and `CMD_DATA`. -/
def encode (i : Instr) : Word × Data := (encodeWord i, encodeData i)

/-! ### The bits of a table row -/

/-- `CMD_WORD` of an instruction whose bits are `w`: bits 31..0. -/
def rowWord (nbits w : Nat) : Word := BitVec.ofNat 32 (w % 2 ^ nbits)

/-- `CMD_DATA` of an instruction whose bits are `w`: the operand counts on from the command word, bits 159..32, and
every bit from `nbits` up is 0 (log entry 15). -/
def rowData (nbits w : Nat) : Data := BitVec.ofNat 128 (w % 2 ^ nbits / 2 ^ 32)

/-- The instruction the decoder reads from an instruction whose bits are `w`. -/
def decodeTableWord (nbits w : Nat) : Option Instr :=
  match decode (rowWord nbits w) (rowData nbits w) with
  | .ok i => some i
  | .error _ => none

end Sys2Proof
end

