-- ==== Sys2Proof/Machine/Advance.lean ====
section
/-!
DEFINITION. The two-lane advancement and the absolute value, as pure functions (spec/41_advance.md R50 to R53, R55, R56).
The literals are the source's, taken as printed (spec/00_scope.md R5, R6; UNVERIFIED, log entry 11).
-/

namespace Sys2Proof.Machine

/-- The lane-1 multiplier (R6). -/
def mul1 : Word := 10007#32

/-- The lane-2 multiplier (R6). -/
def mul2 : Word := 44701#32

/-- The half-word mask (R6). -/
def halfMask : Word := 0xFFFF#32

/-- The shift distance of both lanes (R6). -/
def shiftDistance : Nat := 16

/-- The lane-1 update: the low half times 10007 plus the arithmetic right shift, modulo 2^32 (R51). -/
def advLane1 (l1 : Word) : Word := mul1 * (l1 &&& halfMask) + l1.sshiftRight shiftDistance

/-- The lane-2 update: the low half times 44701 plus the LEFT shift, modulo 2^32 (R52). -/
def advLane2 (l2 : Word) : Word := mul2 * (l2 &&& halfMask) + l2 <<< shiftDistance

/-- What one advancement gives: both new lanes and the raw result. -/
structure Advanced where
  lane1 : Word
  lane2 : Word
  raw : Word
  deriving DecidableEq, Repr

/-- `ADV(l1, l2)`: both lanes read the values held before, and the raw result is the XOR of the updated lanes (R50,
R56). -/
def adv (l1 l2 : Word) : Advanced where
  lane1 := advLane1 l1
  lane2 := advLane2 l2
  raw := advLane1 l1 ^^^ advLane2 l2

/-- `ABS32(v)`: the two's-complement absolute value; the minimum value wraps to itself (R53). -/
def abs32 (v : Word) : Word := if v.getLsbD 31 then -v else v

end Sys2Proof.Machine
end

