-- ==== Sys2Proof/Machine/Operands.lean ====
section
/-!
DEFINITION. The forms an operand takes inside a command: its bytes (spec/20_memory.md R21, R22), the pairs of an
identifier (spec/40_seed.md R41), the byte permutation (R42), the halves of a 32-bit seed (R44), and `GEN`'s length
range (spec/42_extract.md R62). What stands on which bits of `CMD_DATA` is Decode.lean's.
-/

namespace Sys2Proof.Machine

/-! ### Bytes -/

/-- Byte `k` of a value, `v[8k+7:8k]`: `LE_k(v)` (spec/00_scope.md section 5; R22). -/
def leByte (n : Nat) (v : BitVec n) (k : Nat) : Byte := v.extractLsb' (8 * k) 8

/-- The four little-endian bytes of a word, the least significant first (R21 (d)). -/
def leBytes4 (w : Word) : Vector Byte 4 := #v[leByte 32 w 0, leByte 32 w 1, leByte 32 w 2, leByte 32 w 3]

/-- A four-byte buffer read as a little-endian 32-bit integer, byte 0 in bits `[7:0]` (R21 (b)). -/
def leWord (p : Vector Byte 4) : Word := p[3] ++ p[2] ++ p[1] ++ p[0]

/-- The sixteen bytes `b[0..15]` of an identifier (R22). -/
def identBytes (ident : Data) : Vector Byte 16 :=
  #v[leByte 128 ident 0, leByte 128 ident 1, leByte 128 ident 2, leByte 128 ident 3,
     leByte 128 ident 4, leByte 128 ident 5, leByte 128 ident 6, leByte 128 ident 7,
     leByte 128 ident 8, leByte 128 ident 9, leByte 128 ident 10, leByte 128 ident 11,
     leByte 128 ident 12, leByte 128 ident 13, leByte 128 ident 14, leByte 128 ident 15]

/-- Whether all sixteen bytes are zero (R41, the test of `InvalidSeed`). -/
def allZero (b : Vector Byte 16) : Bool := b.toList.all (· = 0)

/-! ### Raw lanes -/

/-- The pair loop of `SEED128`, over consecutive pairs: XOR the even-indexed byte into the first lane, AND the
odd-indexed byte into the second, each byte zero-extended (R41; the pairing is spec/90_conflicts.md C1, log entry 12;
the widening is spec/92_eei_decisions.md D13, log entry 13). -/
def mixPairs : List Byte → Word × Word → Word × Word
  | even :: odd :: rest, (r1, r2) => mixPairs rest (r1 ^^^ even.setWidth 32, r2 &&& odd.setWidth 32)
  | _, r => r

/-- The bytes `x = [t4, t6, t0, t2]` (R42, as printed; spec/90_conflicts.md C2). -/
def permuteX (t : Vector Byte 16) : Vector Byte 4 := #v[t[4], t[6], t[0], t[2]]

/-- The bytes `y = [t7, t1, t4, t3]` (R42, as printed: `t4` a second time, `t5` never). -/
def permuteY (t : Vector Byte 16) : Vector Byte 4 := #v[t[7], t[1], t[4], t[3]]

/-- The raw lanes of a non-zero 32-bit seed: each 16-bit half sign-extended, the low half first (R44). -/
def seedHalves (v : Word) : Word × Word :=
  ((v.extractLsb' 0 16).signExtend 32, (v.extractLsb' 16 16).signExtend 32)

/-! ### Lengths -/

/-- The least length `GEN` accepts (spec/00_scope.md R6). -/
def genMin : Int := 1

/-- The greatest length `GEN` accepts (R6). -/
def genMax : Int := 32767

/-- `GEN`'s range test (R62). -/
def genInRange (n : Int) : Bool := decide (genMin ≤ n) && decide (n ≤ genMax)

end Sys2Proof.Machine
end

