-- ==== Sys2Proof/Config.lean ====
section
/-!
DEFINITION. The open values of the CPDR Mixer: constants with no body, so that nothing can be proved of what they are.
The spec leaves no constant of the algorithm to the implementation (spec/00_scope.md R6): its literals stand beside the
functions that use them, in Machine/Advance.lean and Machine/Operands.lean.
-/

namespace Sys2Proof

/-- `lane1` after the reset that is number `n` of a run (0: the reset the machine starts from). The spec gives the
lanes no value after reset and forbids a model to give them zero (spec/10_state.md R17;
spec/93_implementation_defined.md U11, U19). DESIGN CHOICE, log entry 1: a free value, one constant per reset. -/
opaque Config.resetLane1 : Nat → Word

/-- `lane2` after the reset that is number `n` of a run; as `Config.resetLane1`. DESIGN CHOICE, log entry 1. -/
opaque Config.resetLane2 : Nat → Word

/-- The level of the `TICK` port while the host drives nothing. The tick is a draw, "any 64-bit value, under no law"
(spec/10_state.md R16). DESIGN CHOICE, log entry 7: a constant with no body; no statement rests on it. -/
opaque Config.quietTick : Seed64

end Sys2Proof
end

