-- ==== Sys2Proof/Machine/State.lean ====
section
/-!
DEFINITION. The state of the CPDR Mixer and of the host that drives it, as plain data (spec/10_state.md;
spec/30_encoding.md R30, R39; spec/70_reset_and_hazards.md R85, R94), the ways a step can stop, and the state after reset.
-/

namespace Sys2Proof.Machine

/-! ### What a command ends with -/

/-- The status a command ends with (spec/60_exceptions.md R70, R75). -/
inductive Status where
  /-- The command completed. -/
  | ok
  /-- A `SEED128` of the all-zero identifier (R71). -/
  | invalidSeed
  /-- A `GEN` whose length is outside [1, 32767] (R72). -/
  | outOfRange
  /-- A `NEXT`, `FILL` or `GEN` accepted while `seeded = 0` (R73). -/
  | notSeeded
  /-- A command word that does not decode (R74). -/
  | illegalCommand
  deriving DecidableEq, Repr

/-- The payload of the response channel: `RSP_STATUS` and `RSP_WORD` (spec/30_encoding.md R39). -/
structure Response where
  status : Status
  word : Word
  deriving DecidableEq, Repr

/-- What a command in flight still owes the host: its output bytes not yet transferred, index order, and then its one
response (R39). DESIGN CHOICE, log entry 3: a command runs whole at its acceptance, which R67 allows. -/
structure Flight where
  bytes : List Byte
  response : Response
  deriving DecidableEq, Repr

/-! ### The host's side of the interface -/

/-- The levels of the block's input ports at one moment (R30). -/
structure Inputs where
  /-- `RST` -/
  rst : Bool
  /-- `CMD_VALID` -/
  cmdValid : Bool
  /-- `CMD_WORD` -/
  cmdWord : Word
  /-- `CMD_DATA` -/
  cmdData : Data
  /-- `TICK`: a draw, any value (spec/10_state.md R16) -/
  tick : Seed64
  /-- `OUT_READY` -/
  outReady : Bool
  /-- `RSP_READY` -/
  rspReady : Bool
  deriving DecidableEq, Repr

/-- The ports of a host that does nothing. DESIGN CHOICE, log entry 7: the payload ports are sampled only with
`CMD_VALID`, so their levels here are never read. -/
def Inputs.quiet : Inputs where
  rst := false
  cmdValid := false
  cmdWord := 0#32
  cmdData := 0#128
  tick := Config.quietTick
  outReady := false
  rspReady := false

/-- What the host has been given or has done, one entry a transfer (log entry 5). -/
inductive Event where
  /-- A byte taken from the `OUT` channel. -/
  | byte (b : Byte)
  /-- A response taken from the `RSP` channel. -/
  | response (r : Response)
  /-- A reset, which abandons the command in flight, if any (R88). -/
  | reset
  deriving DecidableEq, Repr

/-! ### The machine -/

/-- Everything the spec gives the machine, with the host's script and record. -/
structure State where
  /-- `lane1 = x[1]` (spec/10_state.md R10) -/
  lane1 : Word
  /-- `lane2 = x[2]` (R10) -/
  lane2 : Word
  /-- The only flag (R11) -/
  seeded : Bool
  /-- Staging: the identifier's or the seed's bytes (R14) -/
  tbuf : Vector Byte 16
  /-- Staging: the bytes `x` of the byte permutation (R14) -/
  xbuf : Vector Byte 4
  /-- Staging: the bytes `y` of the byte permutation (R14) -/
  ybuf : Vector Byte 4
  /-- Staging: the bytes of the last drawn word (R14) -/
  wbuf : Vector Byte 4
  /-- The command in flight; `none` when the block is idle (spec/30_encoding.md R30) -/
  flight : Option Flight
  /-- The levels of the input ports now -/
  pins : Inputs
  /-- The levels of the input ports at the moments to come, the next one first (log entry 4) -/
  moves : List Inputs
  /-- What the host has been given, oldest first (log entry 5) -/
  received : List Event
  /-- How many resets have been taken: the counter of the free lane values (log entry 2) -/
  resets : Nat
  deriving DecidableEq, Repr

/-- Staging registers after a wipe. -/
def zeros4 : Vector Byte 4 := #v[0, 0, 0, 0]

/-- `tbuf` after a wipe. -/
def zeros16 : Vector Byte 16 := #v[0, 0, 0, 0, 0, 0, 0, 0, 0, 0, 0, 0, 0, 0, 0, 0]

/-- The machine right after reset (spec/10_state.md R17; spec/70_reset_and_hazards.md R85): unseeded, staging zero,
nothing in flight, the lanes at values nothing is known of (log entry 1), and a host that drives nothing. -/
def State.reset : State where
  lane1 := Config.resetLane1 0
  lane2 := Config.resetLane2 0
  seeded := false
  tbuf := zeros16
  xbuf := zeros4
  ybuf := zeros4
  wbuf := zeros4
  flight := none
  pins := Inputs.quiet
  moves := []
  received := []
  resets := 0

/-! ### How a step can stop -/

/-- The reasons for a fault: none. Every error of this block is a status that a command ends with, after which the
block goes on (spec/60_exceptions.md R77, R78), and every access its commands make exists; so no definition raises a
fault. Safe: claims about faults are empty. DEDUCED, log entry 21. -/
inductive Fault
  deriving DecidableEq, Repr

/-- The reasons for a refusal. -/
inductive Refusal where
  /-- An instruction the model gives no meaning, rejected by its arm of `exec`. No arm does so: all six commands have
  their meaning. Safe. -/
  | notModelled (mnemonic : String)
  deriving DecidableEq, Repr

/-- What a step answers. -/
abbrev Result := Host.Outcome State Fault Refusal

end Sys2Proof.Machine
end

