-- ==== Sys2Proof/Machine/Ops.lean ====
section
/-!
DEFINITION. The named operations on the state: staging and wiping, advancing the lanes, seeding, ending a command with a
response, ending it with an error (the one shared operation for all four errors), and reset.
-/

namespace Sys2Proof.Machine

/-! ### Staging registers (spec/10_state.md R14) -/

/-- Zero all four staging registers: the wipe owed on every way a command ends (R14; spec/70_reset_and_hazards.md R93). It
is the last thing a command does before its first byte is transferred (DESIGN CHOICE, log entry 17). -/
def State.wipe (s : State) : State :=
  { s with tbuf := zeros16, xbuf := zeros4, ybuf := zeros4, wbuf := zeros4 }

/-- Load `tbuf` with the identifier's bytes (spec/40_seed.md R41). -/
def State.stageIdent (ident : Data) (s : State) : State := { s with tbuf := identBytes ident }

/-- Load `tbuf[0..7]` with the eight bytes of a seed or a tick (R43, R44; log entry 18 for the other eight). -/
def State.stageSeed (v : Seed64) (s : State) : State :=
  { s with tbuf :=
      #v[leByte 64 v 0, leByte 64 v 1, leByte 64 v 2, leByte 64 v 3,
         leByte 64 v 4, leByte 64 v 5, leByte 64 v 6, leByte 64 v 7,
         s.tbuf[8], s.tbuf[9], s.tbuf[10], s.tbuf[11], s.tbuf[12], s.tbuf[13], s.tbuf[14], s.tbuf[15]] }

/-- Build `xbuf` and `ybuf` from `tbuf` (R42). -/
def State.permute (s : State) : State := { s with xbuf := permuteX s.tbuf, ybuf := permuteY s.tbuf }

/-- The raw lanes that `xbuf` and `ybuf` read as: the second half of `TSEED` (R42). -/
def State.rawLanes (s : State) : Word × Word := (leWord s.xbuf, leWord s.ybuf)

/-! ### Ending a command (spec/30_encoding.md R39) -/

/-- End the command: it owes the host `bytes` and then the response, and the staging registers are wiped (R39; R93). -/
def State.respond (status : Status) (word : Word) (bytes : List Byte) (s : State) : State :=
  { s.wipe with flight := some { bytes := bytes, response := { status := status, word := word } } }

/-- `raise E()`: end the command with an error. Lanes and `seeded` keep their values, no byte is owed, `RSP_WORD` is
0, and control goes nowhere: there is nothing to save and nothing to return to (spec/60_exceptions.md R77, R78). -/
def State.raise (error : Status) (s : State) : State := s.respond error 0 []

/-! ### The lanes -/

/-- Store both lanes, together (spec/41_advance.md R56). -/
def State.setLanes (l1 l2 : Word) (s : State) : State := { s with lane1 := l1, lane2 := l2 }

/-- One advancement of the block (R50). -/
def State.advance (s : State) : State :=
  s.setLanes (adv s.lane1 s.lane2).lane1 (adv s.lane1 s.lane2).lane2

/-- The raw result that one advancement from this state gives (R50). -/
def State.rawWord (s : State) : Word := (adv s.lane1 s.lane2).raw

/-! ### Reset (spec/70_reset_and_hazards.md R85, R88) -/

/-- `RST`: the reset state of spec/10_state.md R17; the command in flight is abandoned with no response and the lanes
become unspecified (a fresh free value each time, log entries 1, 2). The host keeps its ports and its record. -/
def State.takeReset (s : State) : State :=
  { s.wipe with
    lane1 := Config.resetLane1 (s.resets + 1)
    lane2 := Config.resetLane2 (s.resets + 1)
    seeded := false
    flight := none
    received := s.received ++ [.reset]
    resets := s.resets + 1 }

end Sys2Proof.Machine
end

