-- ==== Sys2Proof/Machine/Flags.lean ====
section
/-!
DEFINITION. The one flag of the block, `seeded` (spec/10_state.md R11 and section 3): who sets it and who tests it. No
arithmetic sets a flag (spec/41_advance.md R55).
-/

namespace Sys2Proof.Machine

/-- `seeded <- 1`, by a seed command that succeeds (R11; spec/40_seed.md R40). -/
def State.markSeeded (s : State) : State := { s with seeded := true }

/-- The test `NEXT`, `FILL` and `GEN` make first, before any check of their own: while `seeded = 0` the command ends
with `NotSeeded` (spec/60_exceptions.md R73, R76). -/
def whenSeeded (go : State → State) (s : State) : Result :=
  .next (if s.seeded then go s else s.raise .notSeeded)

end Sys2Proof.Machine
end

