-- ==== Sys2Proof/Machine/Extract.lean ====
section
/-!
DEFINITION. The output extraction pipeline: `EXTRACT`, `FILL` and `GEN` (spec/42_extract.md R60 to R66), as one atomic
step (R67 allows it; the small steps are in Machine/Pipeline.lean).
-/

namespace Sys2Proof.Machine

/-- Draw a word: one advancement, its raw result (never the absolute value, R63) into `wbuf` (R60). -/
def State.draw (s : State) : State := { s.advance with wbuf := leBytes4 s.rawWord }

/-- The state in which byte number `i` is emitted: a fresh word is drawn at every fourth index (R60). -/
def State.atIndex (i : Nat) (s : State) : State := if i % 4 = 0 then s.draw else s

/-- `wbuf[i mod 4]` (R60). -/
def State.wbufByte (i : Nat) (s : State) : Byte := s.wbuf[i % 4]'(Nat.mod_lt i (by decide))

/-- The loop of `EXTRACT` from index `i` with `k` bytes to go: the state after it and the bytes emitted, in ascending
index order (R60, R24). -/
def extractFrom : Nat → Nat → State → State × List Byte
  | 0, _, s => (s, [])
  | k + 1, i, s =>
    let t := s.atIndex i
    let rest := extractFrom k (i + 1) t
    (rest.1, t.wbufByte i :: rest.2)

/-- `EXTRACT(n)` and then `respond(OK, 0)`: the bytes of the command, then its response, `wbuf` wiped (R60, R61, R62,
R66). -/
def State.extract (n : Nat) (s : State) : State :=
  (extractFrom n 0 s).1.respond .ok 0 (extractFrom n 0 s).2

/-- `GEN` on a seeded block: the range test, which a length that fails ends with no draw and no byte (R62;
spec/60_exceptions.md R72). -/
def State.genAnswer (length : Int) (s : State) : State :=
  if genInRange length then s.extract length.toNat else s.raise .outOfRange

/-- `FILL` (R61): no length check; length 0 is a no-op. -/
def execFill (length : Nat) (s : State) : Result := whenSeeded (·.extract length) s

/-- `GEN` (R62): the range test comes after the test of `seeded` (R76). -/
def execGen (length : Int) (s : State) : Result := whenSeeded (·.genAnswer length) s

end Sys2Proof.Machine
end

