-- ==== Sys2Proof/Machine/Next.lean ====
section
/-!
DEFINITION. `NEXT` (spec/41_advance.md R54).
-/

namespace Sys2Proof.Machine

/-- The word `NEXT` returns for a raw result: itself, or its absolute value in the mode "positive only" (R54). -/
def nextWord (positiveOnly : Bool) (raw : Word) : Word := if positiveOnly then abs32 raw else raw

/-- One advancement, and the answer with its word (R54). -/
def State.nextAnswer (positiveOnly : Bool) (s : State) : State :=
  s.advance.respond .ok (nextWord positiveOnly s.rawWord) []

/-- `NEXT` (R54): the modifier changes only the returned word. -/
def execNext (positiveOnly : Bool) (s : State) : Result := whenSeeded (·.nextAnswer positiveOnly) s

end Sys2Proof.Machine
end

