-- ==== Sys2Proof/Machine/Seed.lean ====
section
/-!
DEFINITION. The seed commands `SEED128`, `SEED64` and `SEED32` (spec/40_seed.md R40 to R46).
-/

namespace Sys2Proof.Machine

/-- What every seed command does with its raw lanes: one advancement whose result word is discarded, the lanes stored,
`seeded` set, and the answer `OK` (R40). The lanes' previous values and the old `seeded` are not read. -/
def State.seedFrom (raw : Word × Word) (s : State) : State :=
  ((s.setLanes raw.1 raw.2).advance.markSeeded).respond .ok 0 []

/-- The path of a 64-bit seed or a tick: its bytes staged, permuted and read back as raw lanes (R42, R43). -/
def State.seedFrom64 (v : Seed64) (s : State) : State :=
  ((s.stageSeed v).permute).seedFrom ((s.stageSeed v).permute).rawLanes

/-- `SEED128` (R41): the zero identifier is rejected; else the byte pairs are mixed from zero lanes. -/
def execSeed128 (ident : Data) (s : State) : Result :=
  .next
    (if allZero (s.stageIdent ident).tbuf then (s.stageIdent ident).raise .invalidSeed
     else (s.stageIdent ident).seedFrom (mixPairs (s.stageIdent ident).tbuf.toList (0, 0)))

/-- `SEED64` (R43): an absent seed is replaced by the sampled tick; a supplied zero is not. -/
def execSeed64 (seed : Option Seed64) (s : State) : Result :=
  .next (s.seedFrom64 (seed.getD s.pins.tick))

/-- `SEED32` (R44): a zero seed means "no seed" and behaves as `SEED64.T`; else the two halves, sign-extended. -/
def execSeed32 (seed : Word) (s : State) : Result :=
  .next (if seed = 0#32 then s.seedFrom64 s.pins.tick else s.seedFrom (seedHalves seed))

end Sys2Proof.Machine
end

