-- ==== Sys2Proof/Machine/Dispatch.lean ====
section
/-!
DEFINITION. One arm per command, each one direct call of its meaning.
-/

namespace Sys2Proof.Machine

def exec (i : Instr) (s : State) : Host.Outcome State Fault Refusal :=
  match i with
  | .seed128 ident => Sys2Proof.Machine.execSeed128 ident s
  | .seed64 seed => Sys2Proof.Machine.execSeed64 seed s
  | .seed32 seed => Sys2Proof.Machine.execSeed32 seed s
  | .next positiveOnly => Sys2Proof.Machine.execNext positiveOnly s
  | .fill length => Sys2Proof.Machine.execFill length s
  | .gen length => Sys2Proof.Machine.execGen length s

end Sys2Proof.Machine
end

