-- ==== Sys2Proof/Machine/Ports.lean ====
section
/-!
DEFINITION. The output ports of the block, as functions of its state (spec/30_encoding.md R30; spec/60_exceptions.md R75).
A payload port is `none` while its `VALID` is 0: nothing samples it then (log entry 22). There is no port that shows
the lanes (spec/10_state.md R13).

While `RST` is 1 the three handshake outputs `CMD_READY`, `OUT_VALID` and `RSP_VALID` are 0, already at the moment `RST`
rises and whatever was in flight: `OUT_VALID = 0` and `RSP_VALID = 0` are the spec's (spec/70_reset_and_hazards.md R85);
that they fall at that moment and not after it, and that `CMD_READY` is 0 too, are the model's choice (DESIGN CHOICE, log
entry 26). So no channel has both its `VALID` and its `READY` at 1 at a moment at which nothing transfers (R30).
`SEEDED` is no handshake: at that moment it still shows the flag, which the reset step clears (DESIGN CHOICE, log entry
28).
-/

namespace Sys2Proof.Machine

/-- `RSP_STATUS[2:0]`: the code of a status; codes 5, 6 and 7 are never driven (R75). -/
def statusCode : Status → BitVec 3
  | .ok => 0
  | .invalidSeed => 1
  | .outOfRange => 2
  | .notSeeded => 3
  | .illegalCommand => 4

/-- What the block shows of the command in flight on its output channels: nothing while `RST` is 1 (R85; log entry
26). -/
def State.shownFlight (s : State) : Option Flight := if s.pins.rst then none else s.flight

/-- `CMD_READY`: 1 exactly when no command is in flight (R30), and 0 while `RST` is 1, since R85 gives it the value 1
"once `RST` is released" (DESIGN CHOICE, log entry 26). -/
def State.cmdReady (s : State) : Bool := !s.pins.rst && s.flight.isNone

/-- The byte offered on `OUT`: the next one the command in flight owes (R39, R24). -/
def State.outByte (s : State) : Option Byte := s.shownFlight.bind (·.bytes.head?)

/-- `OUT_VALID`: 0 while `RST` is 1 (R85; log entry 26). -/
def State.outValid (s : State) : Bool := s.outByte.isSome

/-- The response offered on `RSP`: only after the command's last output byte (R39). -/
def State.rspOffer (s : State) : Option Response :=
  s.shownFlight.bind fun f => if f.bytes.isEmpty then some f.response else none

/-- `RSP_VALID`: 0 while `RST` is 1 (R85; log entry 26). -/
def State.rspValid (s : State) : Bool := s.rspOffer.isSome

/-- `RSP_STATUS`. -/
def State.rspStatus (s : State) : Option (BitVec 3) := s.rspOffer.map (statusCode ·.status)

/-- `RSP_WORD`. -/
def State.rspWord (s : State) : Option Word := s.rspOffer.map (·.word)

/-- `SEEDED`: the flag, always driven (R30; spec/10_state.md R11). The port does not read `RST`: at the moment `RST` rises
it still shows the flag as it was, and 0 from the reset step on, while the handshakes fall at once (DESIGN CHOICE, log
entry 28). It is 1 from the acceptance of a seed command that succeeds, while the response is still owed (DEDUCED, log
entry 29). -/
def State.seededPort (s : State) : Bool := s.seeded

end Sys2Proof.Machine
end

