-- ==== Sys2Proof/Machine/Channels.lean ====
section
/-!
DEFINITION. What the block does at one moment of its ports: reset, the acceptance of a command, the transfer of a byte
or of a response, or nothing (spec/30_encoding.md R30, R39; spec/70_reset_and_hazards.md R85, R87, R89). At most one
channel can transfer at a moment, since `CMD_READY`, `OUT_VALID` and `RSP_VALID` exclude one another; a channel transfers
exactly when its `VALID` and its `READY` are both 1 on the ports of Machine/Ports.lean (R30), which the statement
ChannelsTransferWhenBothAreHigh says.
-/

namespace Sys2Proof.Machine

/-- Accept the command on the ports: decode it and execute it, or answer `IllegalCommand` (spec/30_encoding.md R35;
spec/60_exceptions.md R74, R76). -/
def State.accept (s : State) : Result :=
  match decode s.pins.cmdWord s.pins.cmdData with
  | .ok i => exec i s
  | .error _ => .next (s.raise .illegalCommand)

/-- The host takes byte `b`, the first of the bytes still owed (R39). -/
def State.takeByte (b : Byte) (f : Flight) (s : State) : State :=
  { s with flight := some { f with bytes := f.bytes.tail }, received := s.received ++ [.byte b] }

/-- The host takes the response, which ends the command (R39). -/
def State.takeResponse (f : Flight) (s : State) : State :=
  { s with flight := none, received := s.received ++ [.response f.response] }

/-- The output channels of a busy block: the next byte, or after the last one the response, transferred if the host is
ready for it and held if not (R89). A command offered meanwhile waits (R87). -/
def State.deliver (f : Flight) (s : State) : State :=
  match f.bytes with
  | b :: _ => if s.pins.outReady then s.takeByte b f else s
  | [] => if s.pins.rspReady then s.takeResponse f else s

/-- One moment of the ports. `RST` comes first: nothing transfers while it is asserted (R85; DEDUCED, log entry 6), and
the handshake outputs are 0 then (log entry 26). -/
def State.moment (s : State) : Result :=
  if s.pins.rst then .next s.takeReset
  else
    match s.flight with
    | some f => .next (s.deliver f)
    | none => if s.pins.cmdValid then s.accept else .next s

/-- The host's ports go to their next levels; a host with no moves left drives nothing (log entries 4, 7). -/
def State.hostMoves (s : State) : State :=
  match s.moves with
  | p :: rest => { s with pins := p, moves := rest }
  | [] => { s with pins := Inputs.quiet }

/-- The ports with a command on them and nothing that keeps the block from accepting it: idle, `CMD_VALID` high,
`RST` low. `TICK` and the two `READY` inputs stay as they are. -/
def State.offering (w : Word) (d : Data) (s : State) : State :=
  { s with
    flight := none
    pins := { s.pins with rst := false, cmdValid := true, cmdWord := w, cmdData := d } }

end Sys2Proof.Machine
end

