-- ==== Sys2Proof/Machine/Step.lean ====
section
/-!
DEFINITION. One step: one moment of the ports, after which the host's ports go to their next levels (log entry 4). There
is no program counter: what is "fetched" is the command the host offers (spec/10_state.md R15; spec/20_memory.md R29).
-/

namespace Sys2Proof.Machine

/-- One step of the machine. -/
def step (s : State) : Host.Outcome State Fault Refusal :=
  match s.moment with
  | .next t => .next t.hostMoves
  | .fault r => .fault r
  | .refused r => .refused r

/-- The state with an instruction's bits where the next step fetches: on the command ports of an idle block (log
entry 8). -/
def State.withFetchWord (s : State) (nbits w : Nat) : State := s.offering (rowWord nbits w) (rowData nbits w)

end Sys2Proof.Machine
end

