-- ==== Sys2Proof/Machine/Pipeline.lean ====
section
/-!
DEFINITION. The extraction pipeline as the small steps DRAW, EMIT and DONE of spec/42_extract.md R67, on the in-flight
state `(n, i, wbuf)`. The machine's own `exec` takes R67's other form, one atomic step; that the two give the same
bytes and the same lanes is stated as an obligation. DESIGN CHOICE, log entry 24: DRAW never runs ahead of EMIT.
-/

namespace Sys2Proof.Machine

/-- The pipeline in flight. -/
structure Pipe where
  lane1 : Word
  lane2 : Word
  wbuf : Vector Byte 4
  /-- The length `n`. -/
  length : Nat
  /-- The byte index `i`: how many bytes the host has taken (spec/10_state.md R15). -/
  index : Nat
  /-- How many words have been drawn. -/
  drawn : Nat
  /-- The bytes the host has taken, index order. -/
  emitted : List Byte
  /-- The response is offered. -/
  done : Bool
  deriving DecidableEq, Repr

/-- `EXTRACT(n)` begun: `i` starts at 0 (R67). -/
def Pipe.start (n : Nat) (s : State) : Pipe where
  lane1 := s.lane1
  lane2 := s.lane2
  wbuf := s.wbuf
  length := n
  index := 0
  drawn := 0
  emitted := []
  done := false

/-- DRAW: advance the lanes and load `wbuf` (R67). -/
def Pipe.draw (p : Pipe) : Pipe :=
  { p with
    lane1 := (adv p.lane1 p.lane2).lane1
    lane2 := (adv p.lane1 p.lane2).lane2
    wbuf := leBytes4 (adv p.lane1 p.lane2).raw
    drawn := p.drawn + 1 }

/-- EMIT, when the host takes the byte (R67). -/
def Pipe.emit (p : Pipe) : Pipe :=
  { p with
    emitted := p.emitted ++ [p.wbuf[p.index % 4]'(Nat.mod_lt p.index (by decide))]
    index := p.index + 1 }

/-- DONE: `wbuf` wiped, the response offered (R67). -/
def Pipe.finish (p : Pipe) : Pipe := { p with wbuf := zeros4, done := true }

/-- Whether the word for the group of index `i`, group `i div 4`, has been drawn (R67). -/
def Pipe.groupDrawn (p : Pipe) : Bool := decide (p.index / 4 < p.drawn)

/-- One small step, `outReady` being the level of `OUT_READY`: EMIT waits while it is 0 (R67, R89). -/
def Pipe.next (outReady : Bool) (p : Pipe) : Pipe :=
  if p.done then p
  else if p.index < p.length then
    if p.groupDrawn then (if outReady then p.emit else p) else p.draw
  else p.finish

/-- The small steps against a list of the levels of `OUT_READY`. -/
def Pipe.run : List Bool → Pipe → Pipe
  | [], p => p
  | r :: rest, p => Pipe.run rest (p.next r)

end Sys2Proof.Machine
end

