-- ==== Sys2Proof/Safety.lean ====
section
/-!
DEFINITION. The terms in which claims about the machine are made: the invariant of the step, the stream of words and
bytes a pair of lanes gives, the raw lanes of a 64-bit seed written out on its bits, kinds of commands, runs, and what
the host can tell apart. None of it is used by the machine.
-/

namespace Sys2Proof.Machine

/-! ### The invariant -/

/-- Every staging register is zero: the wiping law (spec/10_state.md R14; spec/70_reset_and_hazards.md R93). -/
def State.StagingZero (s : State) : Prop :=
  s.tbuf = zeros16 ∧ s.xbuf = zeros4 ∧ s.ybuf = zeros4 ∧ s.wbuf = zeros4

/-- Both lanes hold the result of an advancement (R12). -/
def State.Shuffled (s : State) : Prop :=
  ∃ r1 r2 : Word, s.lane1 = (adv r1 r2).lane1 ∧ s.lane2 = (adv r1 r2).lane2

/-- The shape of every command in flight: an error owes no byte and carries the word 0; a command that owes bytes
carries the word 0 (spec/30_encoding.md R39). -/
def Flight.Sound (f : Flight) : Prop :=
  (f.response.status ≠ .ok → f.bytes = [] ∧ f.response.word = 0) ∧ (f.bytes ≠ [] → f.response.word = 0)

/-- What every step keeps: the wiping law, R12 (a seeded block has been shuffled; nothing but errors is owed by an
unseeded one), and the shape of R39. That staging is zero with a command in flight too rests on log entries 3 and 17, and
that an unseeded block owes errors only on log entry 29. -/
def State.Inv (s : State) : Prop :=
  s.StagingZero ∧ (s.seeded = true → s.Shuffled) ∧
    ∀ f, s.flight = some f → f.Sound ∧ (f.response.status = .ok → s.seeded = true)

/-! ### The stream -/

/-- The lanes after `k` advancements (spec/41_advance.md R50). -/
def lanesAfter : Nat → Word × Word → Word × Word
  | 0, l => l
  | k + 1, l => lanesAfter k ((adv l.1 l.2).lane1, (adv l.1 l.2).lane2)

/-- The word number `j` drawn from lanes `l`, counted from 0 (spec/42_extract.md R60). -/
def drawnWord (j : Nat) (l : Word × Word) : Word := (adv (lanesAfter j l).1 (lanesAfter j l).2).raw

/-- Output byte number `i`: byte `i mod 4` of word `i div 4` (R60). -/
def streamByte (l : Word × Word) (i : Nat) : Byte := leByte 32 (drawnWord (i / 4) l) (i % 4)

/-- The number of advancements that `n` output bytes take, `ceil(n / 4)` (R60). -/
def wordsFor (n : Nat) : Nat := (n + 3) / 4

/-- `k` successive `NEXT` commands by `exec`: the words they return, and the state they leave (R64). A command that
does not end with a word ends the list. -/
def nextWords : Nat → State → List Word × State
  | 0, s => ([], s)
  | k + 1, s =>
    match exec (.next false) s with
    | .next t =>
      match t.flight with
      | some f => (f.response.word :: (nextWords k t).1, (nextWords k t).2)
      | none => ([], t)
    | .fault _ => ([], s)
    | .refused _ => ([], s)

/-! ### Raw lanes, written on the bits of the seed -/

/-- `TSEED` of the bytes of `v`: `({t2, t0, t6, t4}, {t3, t4, t1, t7})`, `t[k] = v[8k+7:8k]` (spec/40_seed.md R42). -/
def tseed (v : Seed64) : Word × Word :=
  (v.extractLsb' 16 8 ++ v.extractLsb' 0 8 ++ v.extractLsb' 48 8 ++ v.extractLsb' 32 8,
   v.extractLsb' 24 8 ++ v.extractLsb' 32 8 ++ v.extractLsb' 8 8 ++ v.extractLsb' 56 8)

/-- `b[0] ^ b[2] ^ ... ^ b[14]` of an identifier (R41 corner case (b)). -/
def evenXor (ident : Data) : Byte :=
  ident.extractLsb' 0 8 ^^^ ident.extractLsb' 16 8 ^^^ ident.extractLsb' 32 8 ^^^ ident.extractLsb' 48 8 ^^^
    ident.extractLsb' 64 8 ^^^ ident.extractLsb' 80 8 ^^^ ident.extractLsb' 96 8 ^^^ ident.extractLsb' 112 8

/-! ### Kinds of commands -/

/-- The commands that run `EXTRACT(n)` on a seeded block: `FILL n`, and `GEN n` in its range (spec/42_extract.md R61,
R62). -/
def Extracts (i : Instr) (n : Nat) : Prop := i = .fill n ∨ (i = .gen n ∧ 1 ≤ n ∧ n ≤ 32767)

/-- The three seed commands (R40). -/
def isSeed : Instr → Bool
  | .seed128 _ => true
  | .seed64 _ => true
  | .seed32 _ => true
  | .next _ => false
  | .fill _ => false
  | .gen _ => false

/-- The two tick-using forms (spec/10_state.md R16). -/
def usesTick : Instr → Bool
  | .seed128 _ => false
  | .seed64 seed => seed.isNone
  | .seed32 seed => seed = 0#32
  | .next _ => false
  | .fill _ => false
  | .gen _ => false

/-- The status a decoded command ends with, by the order of the tests (spec/60_exceptions.md R76): `NotSeeded` for the
three output commands first, then the command's own check. -/
def expectedStatus (seeded : Bool) : Instr → Status
  | .seed128 ident => if ident = 0#128 then .invalidSeed else .ok
  | .seed64 _ => .ok
  | .seed32 _ => .ok
  | .next _ => if seeded then .ok else .notSeeded
  | .fill _ => if seeded then .ok else .notSeeded
  | .gen n => if seeded then (if 1 ≤ n ∧ n ≤ 32767 then .ok else .outOfRange) else .notSeeded

/-! ### Runs, and what the host sees -/

/-- `k` steps lead from `s` to `t`. -/
def StepsTo : Nat → State → State → Prop
  | 0, s, t => s = t
  | k + 1, s, t => ∃ u, step s = .next u ∧ StepsTo k u t

/-- The block is idle and a command is offered to it, with no reset: the next step accepts the command. -/
def State.Offered (s : State) : Prop := s.flight = none ∧ s.pins.rst = false ∧ s.pins.cmdValid = true

/-- The same state with another level on the `TICK` port (spec/10_state.md R16). -/
def State.withTick (tick : Seed64) (s : State) : State := { s with pins := { s.pins with tick := tick } }

/-- The ports of a host that takes whatever is offered and does not reset (spec/70_reset_and_hazards.md R89). -/
def Inputs.Accepts (p : Inputs) : Prop := p.rst = false ∧ p.outReady = true ∧ p.rspReady = true

/-- Two states the host cannot tell apart, now or later: all that shows on the ports agrees, and the lanes agree if
they can be drawn from. The staging registers, the host's record so far, the count of resets and the lanes of an
unseeded block are left free (spec/10_state.md R12, R13, R14). -/
def SameToHost (s t : State) : Prop :=
  s.seeded = t.seeded ∧ (s.seeded = true → s.lane1 = t.lane1 ∧ s.lane2 = t.lane2) ∧
    s.flight = t.flight ∧ s.pins = t.pins ∧ s.moves = t.moves

/-- The responses in a record, each with the bytes that came before it in its command; the bytes of a command that a
reset abandoned belong to no response (spec/70_reset_and_hazards.md R88, R94). -/
def responsesFrom : List Byte → List Event → List (Response × List Byte)
  | _, [] => []
  | bs, .byte b :: rest => responsesFrom (bs ++ [b]) rest
  | bs, .response r :: rest => (r, bs) :: responsesFrom [] rest
  | _, .reset :: rest => responsesFrom [] rest

/-- A run has ended: the host has no move left, neither a command on the ports nor a reset nor anything to come, and the
last command's response has been taken, or a reset has abandoned it (R94; DESIGN CHOICE in the list of moves, log entry
27). -/
def State.runEnded (s : State) : Bool :=
  s.moves.isEmpty && !s.pins.rst && !s.pins.cmdValid && s.flight.isNone

/-- The record does not end in the middle of a command: it is empty, or its last entry is a response or a reset (R94). -/
def recordClosed (record : List Event) : Bool :=
  match record.getLast? with
  | some (.byte _) => false
  | some (.response _) => true
  | some .reset => true
  | none => true

/-- The observation of a run (R94). -/
def State.observation (s : State) : List (Response × List Byte) := responsesFrom [] s.received

end Sys2Proof.Machine
end

