-- ==== Sys2Proof/Certificates/Slice0/Obligations.lean ====
section
/-!
DEFINITION. The statements for the provers, from the numbered rules of spec/. A statement of what a command does gives the
WHOLE next state, so that it is the command's result, its completion and its frame in one: a field that is not named in
the record is unchanged, and `wipe` zeroes the four staging registers, which spec/70_reset_and_hazards.md R93 owes on
every way a command ends. The bytes and the response a command owes are its `flight`, which R67 allows to be made at once (log
entry 3).
-/

open Sys2Proof Sys2Proof.Machine

/-! ### Encoding (spec/30_encoding.md) -/

/-- Section 6 (R37) and R34: putting a command on the ports and decoding it gives the command back, every operand
at every value the ports can carry. -/
def Obligations.DecodeOfEncode : Prop :=
  ∀ i : Instr, wellFormed i = true → decode (encode i).1 (encode i).2 = .ok i

/-- Sections 3 and 4: what the decoder gives is well-formed, its command word is the one decoded, and its own
operand, with every unnamed bit zero, decodes to it again. -/
def Obligations.DecodedCommandIsCanonical : Prop :=
  ∀ (w : Word) (d : Data) (i : Instr), decode w d = .ok i →
    wellFormed i = true ∧ encodeWord i = w ∧ decode w (encodeData i) = .ok i

/-- R34, row by row, and the two paths that take the sampled tick instead of the operand. No result names a bit of
`CMD_DATA` that the row does not name. -/
def Obligations.OperandsAreAssembledAsTabled : Prop :=
  ∀ (d : Data) (v : Seed64) (s : State),
    decode 0x00000001#32 d = .ok (.seed128 d) ∧
    (∀ (k : Nat) (h : k < 16), (s.stageIdent d).tbuf[k] = d.extractLsb' (8 * k) 8) ∧
    decode 0x00000002#32 d = .ok (.seed64 (some (d.extractLsb' 0 64))) ∧
    (∀ (k : Nat) (h : k < 8), (s.stageSeed v).tbuf[k] = v.extractLsb' (8 * k) 8) ∧
    decode 0x00000102#32 d = .ok (.seed64 none) ∧
    exec (.seed64 none) s = exec (.seed64 (some s.pins.tick)) s ∧
    decode 0x00000003#32 d = .ok (.seed32 (d.extractLsb' 0 32)) ∧
    exec (.seed32 0#32) s = exec (.seed64 none) s ∧
    decode 0x00000004#32 d = .ok (.next false) ∧
    decode 0x00000104#32 d = .ok (.next true) ∧
    decode 0x00000005#32 d = .ok (.fill (d.toNat % 2 ^ 32)) ∧
    decode 0x00000006#32 d = .ok (.gen (Int.bmod d.toNat (2 ^ 32)))

/-- Section 3: the legal command words are these eight, whatever the operand. -/
def Obligations.LegalWordsAreTheEight : Prop :=
  ∀ (w : Word) (d : Data), (∃ i, decode w d = .ok i) ↔
    w ∈ [0x00000001#32, 0x00000002#32, 0x00000102#32, 0x00000003#32, 0x00000004#32, 0x00000104#32, 0x00000005#32,
      0x00000006#32]

/-- R35 and R74: which words are illegal, by their three fields, and what the acceptance of one does: status
`IllegalCommand`, nothing else written, `TICK` not used. -/
def Obligations.IllegalCommandIsAnswered : Prop :=
  ∀ (s : State) (op m rsv : Nat),
    op = s.pins.cmdWord.toNat % 256 → m = s.pins.cmdWord.toNat / 256 % 2 → rsv = s.pins.cmdWord.toNat / 512 →
    ((∃ e, decode s.pins.cmdWord s.pins.cmdData = .error e) ↔
      (op = 0 ∨ 7 ≤ op) ∨ rsv ≠ 0 ∨ (m = 1 ∧ op ≠ 2 ∧ op ≠ 4)) ∧
    (((op = 0 ∨ 7 ≤ op) ∨ rsv ≠ 0 ∨ (m = 1 ∧ op ≠ 2 ∧ op ≠ 4)) → ∀ tick : Seed64,
      (s.withTick tick).accept =
        .next { (s.withTick tick).wipe with flight := some ⟨[], ⟨.illegalCommand, 0#32⟩⟩ })

/-- Section 3, in words: one word of every row and the modified ones, with their operands, decode to their
commands. -/
def Obligations.TabledWordsDecode : Prop :=
  decode 0x00000001#32 0x76543210EFCDAB8967452301EFBEADDE#128 = .ok (.seed128 0x76543210EFCDAB8967452301EFBEADDE#128) ∧
  decode 0x00000002#32 0x3039#128 = .ok (.seed64 (some 12345#64)) ∧
  decode 0x00000102#32 0xFFFF#128 = .ok (.seed64 none) ∧
  decode 0x00000003#32 0xDEADBEEF#128 = .ok (.seed32 0xDEADBEEF#32) ∧
  decode 0x00000004#32 0xFFFF#128 = .ok (.next false) ∧
  decode 0x00000104#32 0#128 = .ok (.next true) ∧
  decode 0x00000005#32 5#128 = .ok (.fill 5) ∧
  decode 0x00000006#32 0xFFFFFFFF#128 = .ok (.gen (-1)) ∧
  decode 0x00000101#32 1#128 = .error .strayModifier ∧
  decode 0x00000204#32 0#128 = .error .reservedBits ∧
  decode 0x00000007#32 0#128 = .error .reservedOp ∧
  decode 0x00000000#32 0#128 = .error .reservedOp

/-! ### The step and the ports (spec/30_encoding.md section 1, spec/70_reset_and_hazards.md) -/

/-- A step at which a command is accepted is its acceptance, which is `exec` of the decoded command, or for a word that
does not decode the answer `IllegalCommand` with no effect (R35, R74); a step of an idle block to which nothing is offered
leaves the block as it is (10_state.md section 1, 30_encoding.md section 1). After each the host's ports go to their next
levels. That a step is one moment of the ports, and that a waiting block steps, are the model's choice (log entries 4,
20). -/
def Obligations.StepRunsDecodedCommand : Prop :=
  (∀ s : State, s.Offered → ∃ t, s.accept = .next t ∧
    step s = .next { t with pins := t.moves.headD Inputs.quiet, moves := t.moves.tail }) ∧
  (∀ (s : State) (i : Instr), s.Offered → decode s.pins.cmdWord s.pins.cmdData = .ok i →
    ∃ t, exec i s = .next t ∧ step s = .next { t with pins := t.moves.headD Inputs.quiet, moves := t.moves.tail }) ∧
  (∀ (s : State) (e : Illegal), s.Offered → decode s.pins.cmdWord s.pins.cmdData = .error e →
    step s = .next { s.wipe with
      flight := some ⟨[], ⟨.illegalCommand, 0#32⟩⟩
      pins := s.moves.headD Inputs.quiet
      moves := s.moves.tail }) ∧
  ∀ s : State, s.flight = none → s.pins.rst = false → s.pins.cmdValid = false →
    step s = .next { s with pins := s.moves.headD Inputs.quiet, moves := s.moves.tail }

/-- R39, R87, R89: what a busy block does at a moment without reset, whatever is on the command ports: the next
byte, or after the last byte the response, is transferred if the host is ready for it and held if not. That a step
is one moment of the ports, and the record of what was taken, are the model's choice (log entries 4, 5). -/
def Obligations.TransfersInOrder : Prop :=
  ∀ (s : State) (f : Flight), s.pins.rst = false → s.flight = some f →
    (∀ b bs, f.bytes = b :: bs → s.outByte = some b ∧ s.rspValid = false ∧
      step s = .next { s with
        flight := some (if s.pins.outReady then ⟨bs, f.response⟩ else f)
        received := if s.pins.outReady then s.received ++ [.byte b] else s.received
        pins := s.moves.headD Inputs.quiet
        moves := s.moves.tail }) ∧
    (f.bytes = [] → s.outValid = false ∧ s.rspOffer = some f.response ∧
      step s = .next { s with
        flight := if s.pins.rspReady then none else some f
        received := if s.pins.rspReady then s.received ++ [.response f.response] else s.received
        pins := s.moves.headD Inputs.quiet
        moves := s.moves.tail })

/-- R30, R85: without reset exactly one of `CMD_READY`, `OUT_VALID` and `RSP_VALID` is 1, `CMD_READY` exactly when no
command is in flight; while `RST` is 1 all three are 0; codes above 4 are never on `RSP_STATUS`. That the three are 0
already at the moment `RST` rises, `CMD_READY` among them, and that a payload port shows nothing while its `VALID` is 0,
are the model's choice (log entries 22, 26). -/
def Obligations.PortsExcludeOneAnother : Prop :=
  ∀ s : State,
    (s.pins.rst = false →
      (s.cmdReady = true ↔ s.flight = none) ∧
      ((s.cmdReady = true ∧ s.outValid = false ∧ s.rspValid = false) ∨
        (s.cmdReady = false ∧ s.outValid = true ∧ s.rspValid = false) ∨
        (s.cmdReady = false ∧ s.outValid = false ∧ s.rspValid = true))) ∧
    (s.pins.rst = true → s.cmdReady = false ∧ s.outValid = false ∧ s.rspValid = false) ∧
    ∀ c, s.rspStatus = some c → c.toNat ≤ 4

/-- 30_encoding.md section 1 (R30): a channel transfers at a moment exactly when its `VALID` and its `READY` are both 1. A
command is accepted exactly then, a byte and a response are recorded exactly then, and are the ones the ports offer; the
record grows by a reset exactly when `RST` is 1, and by nothing else. Steps, the record and the ports during reset are
the model's choice (log entries 4, 5, 6, 26). -/
def Obligations.ChannelsTransferWhenBothAreHigh : Prop :=
  ∀ s : State, (s.pins.cmdValid = true ∧ s.cmdReady = true ↔ s.Offered) ∧
    ∃ t, step s = .next t ∧
      (∀ b, t.received = s.received ++ [.byte b] ↔ s.outByte = some b ∧ s.pins.outReady = true) ∧
      (∀ r, t.received = s.received ++ [.response r] ↔ s.rspOffer = some r ∧ s.pins.rspReady = true) ∧
      (t.received = s.received ++ [.reset] ↔ s.pins.rst = true) ∧
      (t.received = s.received ↔ s.pins.rst = false ∧ (s.outValid && s.pins.outReady) = false ∧
        (s.rspValid && s.pins.rspReady) = false)

/-- Section 1 of 60_exceptions.md: the codes. -/
def Obligations.StatusCodes : Prop :=
  statusCode .ok = 0#3 ∧ statusCode .invalidSeed = 1#3 ∧ statusCode .outOfRange = 2#3 ∧ statusCode .notSeeded = 3#3 ∧
    statusCode .illegalCommand = 4#3

/-- 20_memory.md section 5 (R29): while a command is in flight, the command ports and `TICK` have no effect. That
the ports take new levels after each step is the model's choice (log entry 4). -/
def Obligations.BusyBlockIgnoresCommandPorts : Prop :=
  ∀ (s : State) (f : Flight) (p : Inputs), s.flight = some f →
    p.rst = s.pins.rst → p.outReady = s.pins.outReady → p.rspReady = s.pins.rspReady →
    step { s with pins := p } = step s

/-- R89: a host that takes what is offered gets every byte and then the response of the command in flight, in as
many steps, and the block is idle; nothing else of the block changes meanwhile. Steps and the record are the
model's choice (log entries 4, 5). -/
def Obligations.EveryCommandEnds : Prop :=
  ∀ (s : State) (f : Flight), s.flight = some f → f.bytes.length ≤ s.moves.length →
    (∀ p ∈ s.pins :: s.moves.take f.bytes.length, p.Accepts) →
    StepsTo (f.bytes.length + 1) s { s with
      flight := none
      received := s.received ++ f.bytes.map .byte ++ [.response f.response]
      pins := (s.moves.drop f.bytes.length).headD Inputs.quiet
      moves := s.moves.drop (f.bytes.length + 1) }

/-- 10_state.md section 7: what reset leaves, where the spec gives a value. The lanes have none (log entry 1), and
nothing is said of them. -/
def Obligations.ResetValues : Prop :=
  State.reset.seeded = false ∧ State.reset.StagingZero ∧ State.reset.flight = none ∧ State.reset.cmdReady = true ∧
    State.reset.outValid = false ∧ State.reset.rspValid = false

/-- 70_reset_and_hazards.md section 1: `RST` at any moment, a command in flight or not: `OUT_VALID` and `RSP_VALID` are 0
at that moment and after it, and the block is unseeded, staging zero, idle, with `CMD_READY` 1 once `RST` is released; an
abandoned command gets no response, and what the host took before stays. That nothing is transferred at that moment, the
record of the reset, and the ports at that moment are the model's choice (log entries 5, 6, 26). -/
def Obligations.ResetAbandonsTheCommand : Prop :=
  ∀ s : State, s.pins.rst = true → s.outValid = false ∧ s.rspValid = false ∧
    ∃ t, step s = .next t ∧ t.seeded = false ∧ t.StagingZero ∧ t.flight = none ∧
      (t.pins.rst = false → t.cmdReady = true) ∧ t.outValid = false ∧ t.rspValid = false ∧
      t.received = s.received ++ [.reset] ∧ t.pins = s.moves.headD Inputs.quiet ∧ t.moves = s.moves.tail

/-- 70_reset_and_hazards.md section 3 (R94): an ended run stays ended: whatever number of steps follows, the record, and
with it the observation, is complete and the block does not change. When a run has ended is told on the model's list of
moves (log entries 4, 27). -/
def Obligations.EndedRunStaysEnded : Prop :=
  ∀ (k : Nat) (s t : State), s.runEnded = true → StepsTo k s t → t.runEnded = true ∧
    t = { s with pins := t.pins } ∧ t.observation = s.observation

/-- 70_reset_and_hazards.md section 3 (R94), an invariant: whenever no command is in flight the record is empty or ends
with a response or a reset, so that a run that has ended has had its last command's response taken, or a reset after it.
The record is the model's choice (log entries 5, 27). -/
def Obligations.IdleRecordIsClosed : Prop :=
  (∀ s t : State, (s.flight = none → recordClosed s.received = true) → step s = .next t →
    t.flight = none → recordClosed t.received = true) ∧
  (State.reset.flight = none ∧ recordClosed State.reset.received = true) ∧
  ∀ s : State, (s.flight = none → recordClosed s.received = true) → s.runEnded = true → s.received ≠ [] →
    (∃ r, s.received.getLast? = some (.response r)) ∨ s.received.getLast? = some .reset

/-! ### The advancement (spec/41_advance.md) -/

/-- R50: `ADV` in one equation, and the advancement of the block, which leaves everything but the lanes. -/
def Obligations.AdvancementOfTheLanes : Prop :=
  (∀ l1 l2 : Word, adv l1 l2 =
    ⟨10007#32 * (l1 &&& 0xFFFF#32) + l1.sshiftRight 16, 44701#32 * (l2 &&& 0xFFFF#32) + (l2 <<< 16),
      (10007#32 * (l1 &&& 0xFFFF#32) + l1.sshiftRight 16) ^^^ (44701#32 * (l2 &&& 0xFFFF#32) + (l2 <<< 16))⟩) ∧
  ∀ s : State, s.advance =
    { s with lane1 := (adv s.lane1 s.lane2).lane1, lane2 := (adv s.lane1 s.lane2).lane2 } ∧
    s.rawWord = (adv s.lane1 s.lane2).raw

/-- R51: lane 1 as an exact sum of integers, its range, and the rule's corner cases. -/
def Obligations.Lane1IsAnExactSum : Prop :=
  (∀ l1 l2 : Word,
    (adv l1 l2).lane1 = 10007#32 * (l1 &&& 0x0000FFFF#32) + l1.sshiftRight 16 ∧
    (adv l1 l2).lane1.toInt = 10007 * (l1.extractLsb' 0 16).toNat + (l1.extractLsb' 16 16).toInt ∧
    -32768 ≤ (adv l1 l2).lane1.toInt ∧ (adv l1 l2).lane1.toInt ≤ 655841512) ∧
  ∀ l2 : Word, (adv 0#32 l2).lane1 = 0#32 ∧ (adv 0x80000000#32 l2).lane1 = 0xFFFF8000#32 ∧
    (adv 0x7FFFFFFF#32 l2).lane1 = 0x271758E8#32 ∧ (adv 0xFFFFFFFF#32 l2).lane1 = 0x2716D8E8#32 ∧
    (adv 0xFFFF0000#32 l2).lane1 = 0xFFFFFFFF#32

/-- R52: lane 2 as a product modulo 2^32 of its low half alone, where that product wraps, when the low half is
zero, the period of the lane, and the rule's examples. -/
def Obligations.Lane2IsAProductOfItsLowHalf : Prop :=
  (∀ l1 l2 : Word,
    (adv l1 l2).lane2 = 44701#32 * (l2 &&& 0x0000FFFF#32) + (l2 <<< 16) ∧
    (adv l1 l2).lane2.toNat = 110237 * (l2.extractLsb' 0 16).toNat % 2 ^ 32 ∧
    (2 ^ 32 ≤ 110237 * (l2.extractLsb' 0 16).toNat ↔ 38962 ≤ (l2.extractLsb' 0 16).toNat) ∧
    ((adv l1 l2).lane2.extractLsb' 0 16).toNat = 44701 * (l2.extractLsb' 0 16).toNat % 2 ^ 16 ∧
    ((adv l1 l2).lane2.extractLsb' 0 16 = 0#16 ↔ l2.extractLsb' 0 16 = 0#16) ∧
    (l2.extractLsb' 0 16 = 0#16 → (adv l1 l2).lane2 = 0#32)) ∧
  orderOf (44701 : ZMod (2 ^ 16)) = 16384 ∧
  (∀ (k : Nat) (l : Word × Word), (lanesAfter (k + 1 + 16384) l).2 = (lanesAfter (k + 1) l).2) ∧
  ∀ l1 : Word, (adv l1 1#32).lane2 = 0x0001AE9D#32 ∧ (adv l1 0xFFFFFFFF#32).lane2 = 0xAE9B5163#32 ∧
    (adv l1 0x0000FFFF#32).lane2 = 0xAE9B5163#32 ∧ (adv l1 0x80000000#32).lane2 = 0#32 ∧
    (adv l1 0xFFFF0000#32).lane2 = 0#32

/-- R53: the absolute value, exact but for the minimum, which is its own. -/
def Obligations.AbsoluteValue : Prop :=
  (∀ v : Word,
    (v.getLsbD 31 = false → abs32 v = v) ∧
    (v.getLsbD 31 = true → (abs32 v).toNat = (2 ^ 32 - v.toNat) % 2 ^ 32) ∧
    (v ≠ 0x80000000#32 → (abs32 v).toInt = |v.toInt| ∧ (abs32 v).getLsbD 31 = false)) ∧
  abs32 0x80000000#32 = 0x80000000#32 ∧ (0x80000000#32 : Word).toInt = -2147483648 ∧
  abs32 0xFFFFFFFF#32 = 1#32 ∧ abs32 0x80000001#32 = 0x7FFFFFFF#32 ∧ abs32 0x7FFFFFFF#32 = 0x7FFFFFFF#32 ∧
  abs32 0#32 = 0#32

/-- R54: `NEXT` and `NEXT.P`, the whole next state, the unseeded case, and the rule's corner cases and example. -/
def Obligations.NextReturnsTheWord : Prop :=
  (∀ (positiveOnly : Bool) (s : State),
    (s.seeded = true → exec (.next positiveOnly) s = .next { s.wipe with
      lane1 := (adv s.lane1 s.lane2).lane1
      lane2 := (adv s.lane1 s.lane2).lane2
      flight := some ⟨[], ⟨.ok,
        if positiveOnly then abs32 (adv s.lane1 s.lane2).raw else (adv s.lane1 s.lane2).raw⟩⟩ }) ∧
    (s.seeded = false → exec (.next positiveOnly) s = .next { s.wipe with flight := some ⟨[], ⟨.notSeeded, 0#32⟩⟩ })) ∧
  (∀ raw : Word, (abs32 raw).getLsbD 31 = true ↔ raw = 0x80000000#32) ∧
  (∀ s : State, ∃ t u, exec (.seed64 (some 0x0271005D0062005A#64)) s = .next t ∧ exec (.next true) t = .next u ∧
    u.flight = some ⟨[], ⟨.ok, 0x80000000#32⟩⟩) ∧
  (∀ (positiveOnly : Bool) (s : State), s.seeded = true → s.lane1 = 0#32 → s.lane2 = 0#32 →
    ∃ t, exec (.next positiveOnly) s = .next t ∧ t.flight = some ⟨[], ⟨.ok, 0#32⟩⟩) ∧
  ∀ s : State, s.seeded = true → s.lane1 = 0x00000039#32 → s.lane2 = 0x50BD7000#32 →
    ∃ t u, exec (.next false) s = .next t ∧ exec (.next true) s = .next u ∧
      t.flight = some ⟨[], ⟨.ok, 0xBC6C041F#32⟩⟩ ∧ u.flight = some ⟨[], ⟨.ok, 0x4393FBE1#32⟩⟩ ∧
      t.lane1 = 0x0008B41F#32 ∧ t.lane2 = 0xBC64B000#32 ∧ u.lane1 = 0x0008B41F#32 ∧ u.lane2 = 0xBC64B000#32

/-! ### Seeding (spec/40_seed.md) -/

/-- R41: `SEED128` on the zero identifier and on every other, the whole next state; a zero second lane stays zero
under `ADV` and drops out of the word; the rule's example. -/
def Obligations.Seed128SeedsOrRejects : Prop :=
  (∀ (ident : Data) (s : State),
    ((∀ k < 16, ident.extractLsb' (8 * k) 8 = 0#8) →
      exec (.seed128 ident) s = .next { s.wipe with flight := some ⟨[], ⟨.invalidSeed, 0#32⟩⟩ }) ∧
    ((∃ k < 16, ident.extractLsb' (8 * k) 8 ≠ 0#8) →
      exec (.seed128 ident) s = .next { s.wipe with
        lane1 := 10007#32 * (evenXor ident).setWidth 32
        lane2 := 0#32
        seeded := true
        flight := some ⟨[], ⟨.ok, 0#32⟩⟩ }) ∧
    mixPairs (s.stageIdent ident).tbuf.toList (0, 0) = ((evenXor ident).setWidth 32, 0#32)) ∧
  (∀ l1 : Word, (adv l1 0#32).lane2 = 0#32 ∧ (adv l1 0#32).raw = (adv l1 0#32).lane1) ∧
  (adv 0#32 0#32).raw = 0#32 ∧
  ∀ s : State, exec (.seed128 1#128) s = .next { s.wipe with
    lane1 := 0x00002717#32, lane2 := 0#32, seeded := true, flight := some ⟨[], ⟨.ok, 0#32⟩⟩ }

/-- R42: the bytes `x` and `y`, the raw lanes they read as, and the rule's two consequences. -/
def Obligations.SeedBytesArePermutedAsPrinted : Prop :=
  (∀ (v : Seed64) (s : State),
    (s.stageSeed v).permute.xbuf =
      #v[v.extractLsb' 32 8, v.extractLsb' 48 8, v.extractLsb' 0 8, v.extractLsb' 16 8] ∧
    (s.stageSeed v).permute.ybuf =
      #v[v.extractLsb' 56 8, v.extractLsb' 8 8, v.extractLsb' 32 8, v.extractLsb' 24 8] ∧
    (s.stageSeed v).permute.rawLanes = tseed v) ∧
  (∀ v v' : Seed64, v.extractLsb' 0 40 = v'.extractLsb' 0 40 → v.extractLsb' 48 16 = v'.extractLsb' 48 16 →
    tseed v = tseed v') ∧
  ∀ v : Seed64, (tseed v).1.extractLsb' 0 8 = (tseed v).2.extractLsb' 16 8

/-- R43: `SEED64` and `SEED64.T`, the whole next state; a supplied zero is a seed; byte 5 is ignored; the rule's
example. -/
def Obligations.Seed64Seeds : Prop :=
  (∀ (seed : Option Seed64) (s : State), exec (.seed64 seed) s = .next { s.wipe with
    lane1 := (adv (tseed (seed.getD s.pins.tick)).1 (tseed (seed.getD s.pins.tick)).2).lane1
    lane2 := (adv (tseed (seed.getD s.pins.tick)).1 (tseed (seed.getD s.pins.tick)).2).lane2
    seeded := true
    flight := some ⟨[], ⟨.ok, 0#32⟩⟩ }) ∧
  (∀ s : State, exec (.seed64 (some 0#64)) s = .next { s.wipe with
    lane1 := 0#32, lane2 := 0#32, seeded := true, flight := some ⟨[], ⟨.ok, 0#32⟩⟩ }) ∧
  (∀ (v v' : Seed64) (s : State), v.extractLsb' 0 40 = v'.extractLsb' 0 40 → v.extractLsb' 48 16 = v'.extractLsb' 48 16 →
    exec (.seed64 (some v)) s = exec (.seed64 (some v')) s) ∧
  tseed 12345#64 = (0x00390000#32, 0x00003000#32) ∧
  ∀ s : State, exec (.seed64 (some 12345#64)) s = .next { s.wipe with
    lane1 := 0x00000039#32, lane2 := 0x50BD7000#32, seeded := true, flight := some ⟨[], ⟨.ok, 0#32⟩⟩ }

/-- R44: `SEED32` with seed 0 is `SEED64.T`; with any other seed the halves are sign-extended, the low half first;
the whole next state; corner cases (a), (b) and the rule's examples. -/
def Obligations.Seed32Seeds : Prop :=
  (∀ s : State, exec (.seed32 0#32) s = exec (.seed64 none) s) ∧
  (∀ (seed : Word) (s : State), seed ≠ 0#32 → ∃ r1 r2 : Word,
    r1.toInt = (seed.extractLsb' 0 16).toInt ∧ r2.toInt = (seed.extractLsb' 16 16).toInt ∧
    exec (.seed32 seed) s = .next { s.wipe with
      lane1 := (adv r1 r2).lane1
      lane2 := (adv r1 r2).lane2
      seeded := true
      flight := some ⟨[], ⟨.ok, 0#32⟩⟩ }) ∧
  (∀ (seed : Word) (s : State), seed ≠ 0#32 → seed.extractLsb' 0 16 = 0#16 →
    ∃ t, exec (.seed32 seed) s = .next t ∧ t.lane1 = 0#32) ∧
  (∀ l2 : Word, (adv 0#32 l2).lane1 = 0#32) ∧
  seedHalves 0x00008000#32 = (0xFFFF8000#32, 0#32) ∧
  ∀ s : State,
    (exec (.seed32 12345#32) s = .next { s.wipe with
      lane1 := 0x075D041F#32, lane2 := 0#32, seeded := true, flight := some ⟨[], ⟨.ok, 0#32⟩⟩ }) ∧
    (exec (.seed32 0xDEADBEEF#32) s = .next { s.wipe with
      lane1 := 0x1D279078#32, lane2 := 0x768F2619#32, seeded := true, flight := some ⟨[], ⟨.ok, 0#32⟩⟩ })

/-- 00_scope.md section 3 and property S1: two blocks in any two idle states that accept the same tick-free seed
command, with any two ticks on the port, and then see the same moves, give the same responses for ever. Steps and
the record are the model's choice (log entries 4, 5). -/
def Obligations.SameSeedSameStream : Prop :=
  ∀ (k : Nat) (s t : State) (i : Instr) (tick : Seed64),
    s.Offered → t.flight = none → t.pins = (s.withTick tick).pins → t.moves = s.moves →
    decode s.pins.cmdWord s.pins.cmdData = .ok i → isSeed i = true → usesTick i = false → i ≠ .seed128 0#128 →
    ∃ s' t' evs, StepsTo (k + 1) s s' ∧ StepsTo (k + 1) t t' ∧
      s'.received = s.received ++ evs ∧ t'.received = t.received ++ evs ∧ SameToHost s' t'

/-! ### Extraction (spec/42_extract.md) -/

/-- R60 and R61: `FILL` of any length, the whole next state: byte `i` is byte `i mod 4` of word `i div 4`, and the
lanes advance `ceil(n / 4)` times; the unseeded case; length 0 is a no-op; the rule's example. -/
def Obligations.FillStreamsTheBytes : Prop :=
  (∀ (n : Nat) (s : State),
    (s.seeded = true → exec (.fill n) s = .next { s.wipe with
      lane1 := (lanesAfter (wordsFor n) (s.lane1, s.lane2)).1
      lane2 := (lanesAfter (wordsFor n) (s.lane1, s.lane2)).2
      flight := some ⟨(List.range n).map (streamByte (s.lane1, s.lane2)), ⟨.ok, 0#32⟩⟩ }) ∧
    (s.seeded = false → exec (.fill n) s = .next { s.wipe with flight := some ⟨[], ⟨.notSeeded, 0#32⟩⟩ })) ∧
  (∀ s : State, s.seeded = true → exec (.fill 0) s = .next { s.wipe with flight := some ⟨[], ⟨.ok, 0#32⟩⟩ }) ∧
  wordsFor (2 ^ 32 - 1) = 2 ^ 30 ∧
  ∀ s : State, s.seeded = true → s.lane1 = 0x00000039#32 → s.lane2 = 0x50BD7000#32 →
    exec (.fill 5) s = .next { s.wipe with
      lane1 := 0x1B80E7D1#32, lane2 := 0x280BF000#32
      flight := some ⟨[0x1F#8, 0x04#8, 0x6C#8, 0xBC#8, 0xD1#8], ⟨.ok, 0#32⟩⟩ }

/-- R62: `GEN` in range gives what `FILL` of that length gives; out of range it draws nothing; unseeded it answers
`NotSeeded` whatever the length; the rule's boundary lengths and examples. -/
def Obligations.GenStreamsTheBytesInRange : Prop :=
  (∀ (n : Int) (s : State),
    (s.seeded = true → 1 ≤ n → n ≤ 32767 → exec (.gen n) s = .next { s.wipe with
      lane1 := (lanesAfter (wordsFor n.toNat) (s.lane1, s.lane2)).1
      lane2 := (lanesAfter (wordsFor n.toNat) (s.lane1, s.lane2)).2
      flight := some ⟨(List.range n.toNat).map (streamByte (s.lane1, s.lane2)), ⟨.ok, 0#32⟩⟩ }) ∧
    (s.seeded = true → (n < 1 ∨ 32767 < n) →
      exec (.gen n) s = .next { s.wipe with flight := some ⟨[], ⟨.outOfRange, 0#32⟩⟩ }) ∧
    (s.seeded = false → exec (.gen n) s = .next { s.wipe with flight := some ⟨[], ⟨.notSeeded, 0#32⟩⟩ })) ∧
  (∀ (n : Nat) (s : State), 1 ≤ n → n ≤ 32767 → exec (.gen n) s = exec (.fill n) s) ∧
  wordsFor 32767 = 8192 ∧ 32767 % 4 = 3 ∧
  ∀ s : State, s.seeded = true → s.lane1 = 0x00000039#32 → s.lane2 = 0x50BD7000#32 →
    (exec (.gen 4) s = .next { s.wipe with
      lane1 := 0x0008B41F#32, lane2 := 0xBC64B000#32
      flight := some ⟨[0x1F#8, 0x04#8, 0x6C#8, 0xBC#8], ⟨.ok, 0#32⟩⟩ }) ∧
    (exec (.gen 0) s = .next { s.wipe with flight := some ⟨[], ⟨.outOfRange, 0#32⟩⟩ })

/-- R64: the byte view and the word view of one stream: `GEN 4` against `NEXT`, and any `FILL` or `GEN` against as
many `NEXT` commands as it takes words. -/
def Obligations.ByteAndWordViewsAgree : Prop :=
  (∀ s : State, s.seeded = true → ∃ t u w, exec (.gen 4) s = .next t ∧ exec (.next false) s = .next u ∧
    u.flight = some ⟨[], ⟨.ok, w⟩⟩ ∧
    t.flight = some ⟨[w.extractLsb' 0 8, w.extractLsb' 8 8, w.extractLsb' 16 8, w.extractLsb' 24 8], ⟨.ok, 0#32⟩⟩ ∧
    t.lane1 = u.lane1 ∧ t.lane2 = u.lane2) ∧
  ∀ (n : Nat) (s : State), s.seeded = true → ∃ t, exec (.fill n) s = .next t ∧
    t.flight = some ⟨((nextWords (wordsFor n) s).1.flatMap fun w => (leBytes4 w).toList).take n, ⟨.ok, 0#32⟩⟩ ∧
    t.lane1 = (nextWords (wordsFor n) s).2.lane1 ∧ t.lane2 = (nextWords (wordsFor n) s).2.lane2 ∧
    (1 ≤ n → n ≤ 32767 → exec (.gen n) s = .next t)

/-- R65: a partial last group is cut from the last word and its rest is lost: the next command starts at a fresh word.
The commands are `FILL`, and `GEN` in its range, in either place. Length 2 twice takes the low halves of two words,
length 4 one whole word. -/
def Obligations.GroupingRestartsInEveryCommand : Prop :=
  (∀ (i j : Instr) (n m : Nat) (s : State), Extracts i n → Extracts j m → s.seeded = true →
    ∃ t u, exec i s = .next t ∧ exec j t = .next u ∧
      t.flight = some ⟨(List.range n).map (streamByte (s.lane1, s.lane2)), ⟨.ok, 0#32⟩⟩ ∧
      u.flight = some ⟨(List.range m).map (streamByte (lanesAfter (wordsFor n) (s.lane1, s.lane2))), ⟨.ok, 0#32⟩⟩ ∧
      (u.lane1, u.lane2) = lanesAfter (wordsFor n + wordsFor m) (s.lane1, s.lane2)) ∧
  ∀ (i j k : Instr) (s : State), Extracts i 2 → Extracts j 2 → Extracts k 4 → s.seeded = true → ∃ t u v w0 w1,
    w0 = drawnWord 0 (s.lane1, s.lane2) ∧ w1 = drawnWord 1 (s.lane1, s.lane2) ∧
    exec i s = .next t ∧ exec j t = .next u ∧ exec k s = .next v ∧
    t.flight = some ⟨[w0.extractLsb' 0 8, w0.extractLsb' 8 8], ⟨.ok, 0#32⟩⟩ ∧
    u.flight = some ⟨[w1.extractLsb' 0 8, w1.extractLsb' 8 8], ⟨.ok, 0#32⟩⟩ ∧
    v.flight = some ⟨[w0.extractLsb' 0 8, w0.extractLsb' 8 8, w0.extractLsb' 16 8, w0.extractLsb' 24 8], ⟨.ok, 0#32⟩⟩ ∧
    (u.lane1, u.lane2) = lanesAfter 2 (s.lane1, s.lane2) ∧ (v.lane1, v.lane2) = lanesAfter 1 (s.lane1, s.lane2)

/-- Section 4 (R67): against any pattern of `OUT_READY`, the small steps DRAW, EMIT and DONE give a prefix of the
bytes that the atomic step gives, and once done exactly those bytes and the same lanes, `wbuf` wiped. That DRAW
never runs ahead is the model's choice (log entry 24). -/
def Obligations.PipelineRefinesExtraction : Prop :=
  ∀ (n : Nat) (s : State) (ready : List Bool), ∃ bytes,
    (s.extract n).flight = some ⟨bytes, ⟨.ok, 0#32⟩⟩ ∧
    (Pipe.run ready (Pipe.start n s)).emitted <+: bytes ∧
    ((Pipe.run ready (Pipe.start n s)).done = true →
      (Pipe.run ready (Pipe.start n s)).emitted = bytes ∧
      (Pipe.run ready (Pipe.start n s)).lane1 = (s.extract n).lane1 ∧
      (Pipe.run ready (Pipe.start n s)).lane2 = (s.extract n).lane2 ∧
      (Pipe.run ready (Pipe.start n s)).wbuf = zeros4)

/-- R89: with the host always ready, the small steps are done after `ceil(n / 4)` draws, `n` bytes and the DONE
step, and not before. The count of steps rests on the model's choice of no prefetch (log entry 24). -/
def Obligations.PipelineFinishes : Prop :=
  ∀ (n : Nat) (s : State),
    (Pipe.run (List.replicate (wordsFor n + n) true) (Pipe.start n s)).done = false ∧
    (Pipe.run (List.replicate (wordsFor n + n + 1) true) (Pipe.start n s)).done = true ∧
    (Pipe.run (List.replicate (wordsFor n + n + 1) true) (Pipe.start n s)).drawn = wordsFor n

/-! ### Errors (spec/60_exceptions.md) -/

/-- R71, R72, R73: exactly when a decoded command ends with each error, and that the error changes nothing. -/
def Obligations.ErrorsHaveTheirCauses : Prop :=
  ∀ (i : Instr) (s : State), ∃ t f, exec i s = .next t ∧ t.flight = some f ∧
    (f.response.status = .invalidSeed ↔ i = .seed128 0#128) ∧
    (f.response.status = .outOfRange ↔ s.seeded = true ∧ ∃ n, i = .gen n ∧ (n < 1 ∨ 32767 < n)) ∧
    (f.response.status = .notSeeded ↔ s.seeded = false ∧ isSeed i = false) ∧
    f.response.status ≠ .illegalCommand ∧
    (f.response.status ≠ .ok → t = { s.wipe with flight := some ⟨[], ⟨f.response.status, 0#32⟩⟩ })

/-- R76: one status for each accepted command, by the order of the tests. -/
def Obligations.StatusByPriority : Prop :=
  (∀ s : State, ∃ t f, s.accept = .next t ∧ t.flight = some f ∧
    f.response.status = match decode s.pins.cmdWord s.pins.cmdData with
      | .ok i => expectedStatus s.seeded i
      | .error _ => .illegalCommand) ∧
  expectedStatus false (.gen 0) = .notSeeded ∧ ∀ seeded, expectedStatus seeded (.seed128 0#128) = .invalidSeed

/-- Section 4 (R77): an accepted command that ends with an error writes nothing architectural, owes no byte,
carries the word 0, leaves the staging registers zero and does not use the tick. -/
def Obligations.ErrorsHaveNoEffect : Prop :=
  ∀ (s t : State) (f : Flight) (tick : Seed64), s.accept = .next t → t.flight = some f → f.response.status ≠ .ok →
    t = { s.wipe with flight := some ⟨[], ⟨f.response.status, 0#32⟩⟩ } ∧
    (s.withTick tick).accept = .next (t.withTick tick)

/-- Section 5 (R78): once the host has taken the response to a failed command, the block is, to the host, the
block it was before that command, and the record has grown by that one response. Steps and the record are the
model's choice (log entries 4, 5). -/
def Obligations.FailedCommandLeavesNoTrace : Prop :=
  ∀ (s t u : State) (f : Flight) (p q : Inputs) (rest : List Inputs),
    s.Offered → s.moves = p :: q :: rest → p.rst = false → p.rspReady = true →
    step s = .next t → t.flight = some f → f.response.status ≠ .ok → step t = .next u →
    SameToHost u { s with pins := q, moves := rest } ∧ u.received = s.received ++ [.response ⟨f.response.status, 0#32⟩]

/-- R83: what never ends with an error. -/
def Obligations.TheseNeverFail : Prop :=
  ∀ s : State,
    (∀ ident : Data, ident ≠ 0#128 → ∃ t f, exec (.seed128 ident) s = .next t ∧ t.flight = some f ∧
      f.response.status = .ok) ∧
    (∀ seed : Option Seed64, ∃ t f, exec (.seed64 seed) s = .next t ∧ t.flight = some f ∧ f.response.status = .ok) ∧
    (∀ seed : Word, ∃ t f, exec (.seed32 seed) s = .next t ∧ t.flight = some f ∧ f.response.status = .ok) ∧
    (s.seeded = true → ∀ positiveOnly : Bool, ∃ t f, exec (.next positiveOnly) s = .next t ∧ t.flight = some f ∧
      f.response.status = .ok) ∧
    (s.seeded = true → ∀ n : Nat, ∃ t f, exec (.fill n) s = .next t ∧ t.flight = some f ∧ f.response.status = .ok)

/-! ### Whole-machine rules -/

/-- The block never stops: every command in every state owes exactly one response, and every step answers a next
state. That errors are no faults, and that a waiting block steps at all, are the model's choice (log entries 20, 21);
what a waiting block's step leaves is in StepRunsDecodedCommand and TransfersInOrder. -/
def Obligations.NothingStopsTheMachine : Prop :=
  (∀ (i : Instr) (s : State), ∃ t f, exec i s = .next t ∧ t.flight = some f) ∧
  (∀ s : State, ∃ t, step s = .next t) ∧ ∀ (k : Nat) (s : State), ∃ t, StepsTo k s t

/-- 30_encoding.md section 1 (R39): how many bytes a command owes, and when its response carries a word. -/
def Obligations.ResponseShape : Prop :=
  ∀ (i : Instr) (s : State), ∃ t f, exec i s = .next t ∧ t.flight = some f ∧
    (f.response.status ≠ .ok → f.bytes = []) ∧
    (f.response.status = .ok → (∀ n, i = .fill n → f.bytes.length = n) ∧
      (∀ n, i = .gen n → (f.bytes.length : Int) = n) ∧
      ((∀ n, i ≠ .fill n) → (∀ n, i ≠ .gen n) → f.bytes = [])) ∧
    (f.response.word ≠ 0#32 → f.response.status = .ok ∧ ∃ p, i = .next p)

/-- The frame of every command: the host's ports, moves and record and the count of resets are never written; a
command that is no seed command leaves `seeded`; one that does not end `OK`, and `FILL 0`, leave the lanes and
`seeded`. -/
def Obligations.FrameOfEveryCommand : Prop :=
  ∀ (i : Instr) (s : State), ∃ t f, exec i s = .next t ∧ t.flight = some f ∧
    t.pins = s.pins ∧ t.moves = s.moves ∧ t.received = s.received ∧ t.resets = s.resets ∧
    (isSeed i = false → t.seeded = s.seeded) ∧
    (f.response.status ≠ .ok ∨ i = .fill 0 → t.lane1 = s.lane1 ∧ t.lane2 = s.lane2 ∧ t.seeded = s.seeded)

/-- R45, R66 and 70_reset_and_hazards.md R93: every way a command ends leaves every staging register zero, from
any state: each command's own end, an illegal word, and reset. -/
def Obligations.StagingWipedOnEveryExit : Prop :=
  (∀ (i : Instr) (s : State), ∃ t, exec i s = .next t ∧ t.StagingZero) ∧
  (∀ s : State, ∃ t, s.accept = .next t ∧ t.StagingZero) ∧
  ∀ s : State, s.pins.rst = true → ∃ t, step s = .next t ∧ t.StagingZero

/-- The invariant is kept by every step, from every state that has it (10_state.md R12, R14; 30_encoding.md R39). Three
parts of it are more than those rules say and rest on the model's choices: that the staging registers are zero while a
command is in flight too, where R14 speaks of the idle block (log entries 3, 17); that a command in flight that answers
`OK` implies `seeded`, since the flag rises at the acceptance (log entry 29); and that a step is one moment of the ports
(log entry 4). -/
def Obligations.EveryStepKeepsTheInvariant : Prop :=
  ∀ s t : State, s.Inv → step s = .next t → t.Inv

/-- The invariant holds after reset. -/
def Obligations.InvariantAfterReset : Prop := State.reset.Inv

/-- 10_state.md section 1 (R11): what a step does to `seeded`: cleared by reset only, set by a seed command that
succeeds and by nothing else. That a step is one moment, and that the flag rises at the acceptance, are the model's
(log entries 4, 29). -/
def Obligations.SeededFlagRule : Prop :=
  ∀ s : State, ∃ t, step s = .next t ∧
    (t.seeded = true ↔ s.pins.rst = false ∧ (s.seeded = true ∨
      (s.Offered ∧ ∃ i, decode s.pins.cmdWord s.pins.cmdData = .ok i ∧ isSeed i = true ∧ i ≠ .seed128 0#128)))

/-- From a state with the invariant, while `seeded = 0` a step gives the host no byte and no word: at most an error
response with the word 0, or a reset. That no word and no byte is given is R12's second half. The rest is the model's: the
response is never `OK`, since the flag rises at the acceptance of a seed command (log entry 29); a moment of reset adds
the reset alone (log entry 6); the step and the record (log entries 4, 5). -/
def Obligations.NoOutputWhileUnseeded : Prop :=
  ∀ s : State, s.Inv → s.seeded = false → ∃ t, step s = .next t ∧
    (t.received = s.received ∨ t.received = s.received ++ [.reset] ∨
      ∃ e, e ≠ Status.ok ∧ t.received = s.received ++ [.response ⟨e, 0#32⟩])

/-- 10_state.md R12 with 41_advance.md R51: lane 1 of a seeded block lies in the range of an advancement, and lane
2 is a multiple of 110237 modulo 2^32. -/
def Obligations.SeededLanesAreInRange : Prop :=
  ∀ s : State, s.Inv → s.seeded = true → -32768 ≤ s.lane1.toInt ∧ s.lane1.toInt ≤ 655841512 ∧
    ∃ a < 2 ^ 16, s.lane2.toNat = 110237 * a % 2 ^ 32

/-- 10_state.md section 1 (R12, R13) and section 4 (R14): the staging registers, the lanes of an unseeded block
and the lanes after reset can never be told by the host: two states that differ only there give it the same events
for ever. Steps and the record are the model's choice (log entries 4, 5). -/
def Obligations.HiddenStateStaysHidden : Prop :=
  ∀ (k : Nat) (s t : State), SameToHost s t → ∃ s' t' evs, StepsTo k s s' ∧ StepsTo k t t' ∧
    s'.received = s.received ++ evs ∧ t'.received = t.received ++ evs ∧ SameToHost s' t'

/-- 00_scope.md section 3 (R4): the tick is an input of the two tick-using forms only. -/
def Obligations.TickReadByTickFormsOnly : Prop :=
  ∀ (i : Instr) (s : State) (tick : Seed64), usesTick i = false → ∃ t, exec i s = .next t ∧
    exec i (s.withTick tick) = .next (t.withTick tick)

/-- 70_reset_and_hazards.md section 3 (R92): a lane that is zero stays zero under every output command, and with
lane 2 at zero the word of `NEXT` is the new lane 1. -/
def Obligations.ZeroLanesStayZero : Prop :=
  ∀ (i : Instr) (s : State), isSeed i = false → ∃ t, exec i s = .next t ∧
    (s.lane1 = 0#32 → t.lane1 = 0#32) ∧ (s.lane2 = 0#32 → t.lane2 = 0#32) ∧
    (s.lane2 = 0#32 → s.seeded = true → i = .next false → t.flight = some ⟨[], ⟨.ok, t.lane1⟩⟩)
end

