-- ==== Sys2Proof/Laws/State.lean ====
section
/-!
SUPPORT. One lemma per field per update of the state, true by `rfl`, so that no later proof unfolds a record update.
-/

namespace Sys2Proof.Machine

variable (s : State)

/-! ### `wipe`: zero the staging registers (R14) -/

@[simp] theorem State.wipe_lane1 : s.wipe.lane1 = s.lane1 := rfl
@[simp] theorem State.wipe_lane2 : s.wipe.lane2 = s.lane2 := rfl
@[simp] theorem State.wipe_seeded : s.wipe.seeded = s.seeded := rfl
@[simp] theorem State.wipe_tbuf : s.wipe.tbuf = zeros16 := rfl
@[simp] theorem State.wipe_xbuf : s.wipe.xbuf = zeros4 := rfl
@[simp] theorem State.wipe_ybuf : s.wipe.ybuf = zeros4 := rfl
@[simp] theorem State.wipe_wbuf : s.wipe.wbuf = zeros4 := rfl
@[simp] theorem State.wipe_flight : s.wipe.flight = s.flight := rfl
@[simp] theorem State.wipe_pins : s.wipe.pins = s.pins := rfl
@[simp] theorem State.wipe_moves : s.wipe.moves = s.moves := rfl
@[simp] theorem State.wipe_received : s.wipe.received = s.received := rfl
@[simp] theorem State.wipe_resets : s.wipe.resets = s.resets := rfl

/-! ### `stageIdent`: load the identifier (R41) -/

@[simp] theorem State.stageIdent_lane1 (d : Data) : (s.stageIdent d).lane1 = s.lane1 := rfl
@[simp] theorem State.stageIdent_lane2 (d : Data) : (s.stageIdent d).lane2 = s.lane2 := rfl
@[simp] theorem State.stageIdent_seeded (d : Data) : (s.stageIdent d).seeded = s.seeded := rfl
@[simp] theorem State.stageIdent_tbuf (d : Data) : (s.stageIdent d).tbuf = identBytes d := rfl
@[simp] theorem State.stageIdent_xbuf (d : Data) : (s.stageIdent d).xbuf = s.xbuf := rfl
@[simp] theorem State.stageIdent_ybuf (d : Data) : (s.stageIdent d).ybuf = s.ybuf := rfl
@[simp] theorem State.stageIdent_wbuf (d : Data) : (s.stageIdent d).wbuf = s.wbuf := rfl
@[simp] theorem State.stageIdent_flight (d : Data) : (s.stageIdent d).flight = s.flight := rfl
@[simp] theorem State.stageIdent_pins (d : Data) : (s.stageIdent d).pins = s.pins := rfl
@[simp] theorem State.stageIdent_moves (d : Data) : (s.stageIdent d).moves = s.moves := rfl
@[simp] theorem State.stageIdent_received (d : Data) : (s.stageIdent d).received = s.received := rfl
@[simp] theorem State.stageIdent_resets (d : Data) : (s.stageIdent d).resets = s.resets := rfl

/-! ### `stageSeed`: load a seed or a tick (R43); what `tbuf` holds then is `stageSeed_tbuf_low` -/

@[simp] theorem State.stageSeed_lane1 (v : Seed64) : (s.stageSeed v).lane1 = s.lane1 := rfl
@[simp] theorem State.stageSeed_lane2 (v : Seed64) : (s.stageSeed v).lane2 = s.lane2 := rfl
@[simp] theorem State.stageSeed_seeded (v : Seed64) : (s.stageSeed v).seeded = s.seeded := rfl
@[simp] theorem State.stageSeed_xbuf (v : Seed64) : (s.stageSeed v).xbuf = s.xbuf := rfl
@[simp] theorem State.stageSeed_ybuf (v : Seed64) : (s.stageSeed v).ybuf = s.ybuf := rfl
@[simp] theorem State.stageSeed_wbuf (v : Seed64) : (s.stageSeed v).wbuf = s.wbuf := rfl
@[simp] theorem State.stageSeed_flight (v : Seed64) : (s.stageSeed v).flight = s.flight := rfl
@[simp] theorem State.stageSeed_pins (v : Seed64) : (s.stageSeed v).pins = s.pins := rfl
@[simp] theorem State.stageSeed_moves (v : Seed64) : (s.stageSeed v).moves = s.moves := rfl
@[simp] theorem State.stageSeed_received (v : Seed64) : (s.stageSeed v).received = s.received := rfl
@[simp] theorem State.stageSeed_resets (v : Seed64) : (s.stageSeed v).resets = s.resets := rfl

/-! ### `permute`: the byte permutation (R42) -/

@[simp] theorem State.permute_lane1 : s.permute.lane1 = s.lane1 := rfl
@[simp] theorem State.permute_lane2 : s.permute.lane2 = s.lane2 := rfl
@[simp] theorem State.permute_seeded : s.permute.seeded = s.seeded := rfl
@[simp] theorem State.permute_tbuf : s.permute.tbuf = s.tbuf := rfl
@[simp] theorem State.permute_xbuf : s.permute.xbuf = permuteX s.tbuf := rfl
@[simp] theorem State.permute_ybuf : s.permute.ybuf = permuteY s.tbuf := rfl
@[simp] theorem State.permute_wbuf : s.permute.wbuf = s.wbuf := rfl
@[simp] theorem State.permute_flight : s.permute.flight = s.flight := rfl
@[simp] theorem State.permute_pins : s.permute.pins = s.pins := rfl
@[simp] theorem State.permute_moves : s.permute.moves = s.moves := rfl
@[simp] theorem State.permute_received : s.permute.received = s.received := rfl
@[simp] theorem State.permute_resets : s.permute.resets = s.resets := rfl

/-! ### `setLanes`: store both lanes (R56) -/

@[simp] theorem State.setLanes_lane1 (a b : Word) : (s.setLanes a b).lane1 = a := rfl
@[simp] theorem State.setLanes_lane2 (a b : Word) : (s.setLanes a b).lane2 = b := rfl
@[simp] theorem State.setLanes_seeded (a b : Word) : (s.setLanes a b).seeded = s.seeded := rfl
@[simp] theorem State.setLanes_tbuf (a b : Word) : (s.setLanes a b).tbuf = s.tbuf := rfl
@[simp] theorem State.setLanes_xbuf (a b : Word) : (s.setLanes a b).xbuf = s.xbuf := rfl
@[simp] theorem State.setLanes_ybuf (a b : Word) : (s.setLanes a b).ybuf = s.ybuf := rfl
@[simp] theorem State.setLanes_wbuf (a b : Word) : (s.setLanes a b).wbuf = s.wbuf := rfl
@[simp] theorem State.setLanes_flight (a b : Word) : (s.setLanes a b).flight = s.flight := rfl
@[simp] theorem State.setLanes_pins (a b : Word) : (s.setLanes a b).pins = s.pins := rfl
@[simp] theorem State.setLanes_moves (a b : Word) : (s.setLanes a b).moves = s.moves := rfl
@[simp] theorem State.setLanes_received (a b : Word) : (s.setLanes a b).received = s.received := rfl
@[simp] theorem State.setLanes_resets (a b : Word) : (s.setLanes a b).resets = s.resets := rfl

/-! ### `advance`: one advancement (R50) -/

@[simp] theorem State.advance_lane1 : s.advance.lane1 = (adv s.lane1 s.lane2).lane1 := rfl
@[simp] theorem State.advance_lane2 : s.advance.lane2 = (adv s.lane1 s.lane2).lane2 := rfl
@[simp] theorem State.advance_seeded : s.advance.seeded = s.seeded := rfl
@[simp] theorem State.advance_tbuf : s.advance.tbuf = s.tbuf := rfl
@[simp] theorem State.advance_xbuf : s.advance.xbuf = s.xbuf := rfl
@[simp] theorem State.advance_ybuf : s.advance.ybuf = s.ybuf := rfl
@[simp] theorem State.advance_wbuf : s.advance.wbuf = s.wbuf := rfl
@[simp] theorem State.advance_flight : s.advance.flight = s.flight := rfl
@[simp] theorem State.advance_pins : s.advance.pins = s.pins := rfl
@[simp] theorem State.advance_moves : s.advance.moves = s.moves := rfl
@[simp] theorem State.advance_received : s.advance.received = s.received := rfl
@[simp] theorem State.advance_resets : s.advance.resets = s.resets := rfl

/-! ### `markSeeded`: set the flag (R11) -/

@[simp] theorem State.markSeeded_lane1 : s.markSeeded.lane1 = s.lane1 := rfl
@[simp] theorem State.markSeeded_lane2 : s.markSeeded.lane2 = s.lane2 := rfl
@[simp] theorem State.markSeeded_seeded : s.markSeeded.seeded = true := rfl
@[simp] theorem State.markSeeded_tbuf : s.markSeeded.tbuf = s.tbuf := rfl
@[simp] theorem State.markSeeded_xbuf : s.markSeeded.xbuf = s.xbuf := rfl
@[simp] theorem State.markSeeded_ybuf : s.markSeeded.ybuf = s.ybuf := rfl
@[simp] theorem State.markSeeded_wbuf : s.markSeeded.wbuf = s.wbuf := rfl
@[simp] theorem State.markSeeded_flight : s.markSeeded.flight = s.flight := rfl
@[simp] theorem State.markSeeded_pins : s.markSeeded.pins = s.pins := rfl
@[simp] theorem State.markSeeded_moves : s.markSeeded.moves = s.moves := rfl
@[simp] theorem State.markSeeded_received : s.markSeeded.received = s.received := rfl
@[simp] theorem State.markSeeded_resets : s.markSeeded.resets = s.resets := rfl

/-! ### `respond`: end a command (R39, R93) -/

@[simp] theorem State.respond_lane1 (c : Status) (w : Word) (bs : List Byte) : (s.respond c w bs).lane1 = s.lane1 := rfl
@[simp] theorem State.respond_lane2 (c : Status) (w : Word) (bs : List Byte) : (s.respond c w bs).lane2 = s.lane2 := rfl
@[simp] theorem State.respond_seeded (c : Status) (w : Word) (bs : List Byte) : (s.respond c w bs).seeded = s.seeded := rfl
@[simp] theorem State.respond_tbuf (c : Status) (w : Word) (bs : List Byte) : (s.respond c w bs).tbuf = zeros16 := rfl
@[simp] theorem State.respond_xbuf (c : Status) (w : Word) (bs : List Byte) : (s.respond c w bs).xbuf = zeros4 := rfl
@[simp] theorem State.respond_ybuf (c : Status) (w : Word) (bs : List Byte) : (s.respond c w bs).ybuf = zeros4 := rfl
@[simp] theorem State.respond_wbuf (c : Status) (w : Word) (bs : List Byte) : (s.respond c w bs).wbuf = zeros4 := rfl
@[simp] theorem State.respond_flight (c : Status) (w : Word) (bs : List Byte) : (s.respond c w bs).flight = some ⟨bs, ⟨c, w⟩⟩ := rfl
@[simp] theorem State.respond_pins (c : Status) (w : Word) (bs : List Byte) : (s.respond c w bs).pins = s.pins := rfl
@[simp] theorem State.respond_moves (c : Status) (w : Word) (bs : List Byte) : (s.respond c w bs).moves = s.moves := rfl
@[simp] theorem State.respond_received (c : Status) (w : Word) (bs : List Byte) : (s.respond c w bs).received = s.received := rfl
@[simp] theorem State.respond_resets (c : Status) (w : Word) (bs : List Byte) : (s.respond c w bs).resets = s.resets := rfl

/-! ### `raise`: end a command with an error (R77) -/

@[simp] theorem State.raise_lane1 (c : Status) : (s.raise c).lane1 = s.lane1 := rfl
@[simp] theorem State.raise_lane2 (c : Status) : (s.raise c).lane2 = s.lane2 := rfl
@[simp] theorem State.raise_seeded (c : Status) : (s.raise c).seeded = s.seeded := rfl
@[simp] theorem State.raise_tbuf (c : Status) : (s.raise c).tbuf = zeros16 := rfl
@[simp] theorem State.raise_xbuf (c : Status) : (s.raise c).xbuf = zeros4 := rfl
@[simp] theorem State.raise_ybuf (c : Status) : (s.raise c).ybuf = zeros4 := rfl
@[simp] theorem State.raise_wbuf (c : Status) : (s.raise c).wbuf = zeros4 := rfl
@[simp] theorem State.raise_flight (c : Status) : (s.raise c).flight = some ⟨[], ⟨c, 0⟩⟩ := rfl
@[simp] theorem State.raise_pins (c : Status) : (s.raise c).pins = s.pins := rfl
@[simp] theorem State.raise_moves (c : Status) : (s.raise c).moves = s.moves := rfl
@[simp] theorem State.raise_received (c : Status) : (s.raise c).received = s.received := rfl
@[simp] theorem State.raise_resets (c : Status) : (s.raise c).resets = s.resets := rfl

/-! ### `takeReset`: reset (R85, R88) -/

@[simp] theorem State.takeReset_lane1 : s.takeReset.lane1 = Config.resetLane1 (s.resets + 1) := rfl
@[simp] theorem State.takeReset_lane2 : s.takeReset.lane2 = Config.resetLane2 (s.resets + 1) := rfl
@[simp] theorem State.takeReset_seeded : s.takeReset.seeded = false := rfl
@[simp] theorem State.takeReset_tbuf : s.takeReset.tbuf = zeros16 := rfl
@[simp] theorem State.takeReset_xbuf : s.takeReset.xbuf = zeros4 := rfl
@[simp] theorem State.takeReset_ybuf : s.takeReset.ybuf = zeros4 := rfl
@[simp] theorem State.takeReset_wbuf : s.takeReset.wbuf = zeros4 := rfl
@[simp] theorem State.takeReset_flight : s.takeReset.flight = none := rfl
@[simp] theorem State.takeReset_pins : s.takeReset.pins = s.pins := rfl
@[simp] theorem State.takeReset_moves : s.takeReset.moves = s.moves := rfl
@[simp] theorem State.takeReset_received : s.takeReset.received = s.received ++ [.reset] := rfl
@[simp] theorem State.takeReset_resets : s.takeReset.resets = s.resets + 1 := rfl

/-! ### `draw`: draw a word (R60) -/

@[simp] theorem State.draw_lane1 : s.draw.lane1 = (adv s.lane1 s.lane2).lane1 := rfl
@[simp] theorem State.draw_lane2 : s.draw.lane2 = (adv s.lane1 s.lane2).lane2 := rfl
@[simp] theorem State.draw_seeded : s.draw.seeded = s.seeded := rfl
@[simp] theorem State.draw_tbuf : s.draw.tbuf = s.tbuf := rfl
@[simp] theorem State.draw_xbuf : s.draw.xbuf = s.xbuf := rfl
@[simp] theorem State.draw_ybuf : s.draw.ybuf = s.ybuf := rfl
@[simp] theorem State.draw_wbuf : s.draw.wbuf = leBytes4 s.rawWord := rfl
@[simp] theorem State.draw_flight : s.draw.flight = s.flight := rfl
@[simp] theorem State.draw_pins : s.draw.pins = s.pins := rfl
@[simp] theorem State.draw_moves : s.draw.moves = s.moves := rfl
@[simp] theorem State.draw_received : s.draw.received = s.received := rfl
@[simp] theorem State.draw_resets : s.draw.resets = s.resets := rfl

/-! ### `takeByte`: the host takes a byte (R39) -/

@[simp] theorem State.takeByte_lane1 (b : Byte) (f : Flight) : (s.takeByte b f).lane1 = s.lane1 := rfl
@[simp] theorem State.takeByte_lane2 (b : Byte) (f : Flight) : (s.takeByte b f).lane2 = s.lane2 := rfl
@[simp] theorem State.takeByte_seeded (b : Byte) (f : Flight) : (s.takeByte b f).seeded = s.seeded := rfl
@[simp] theorem State.takeByte_tbuf (b : Byte) (f : Flight) : (s.takeByte b f).tbuf = s.tbuf := rfl
@[simp] theorem State.takeByte_xbuf (b : Byte) (f : Flight) : (s.takeByte b f).xbuf = s.xbuf := rfl
@[simp] theorem State.takeByte_ybuf (b : Byte) (f : Flight) : (s.takeByte b f).ybuf = s.ybuf := rfl
@[simp] theorem State.takeByte_wbuf (b : Byte) (f : Flight) : (s.takeByte b f).wbuf = s.wbuf := rfl
@[simp] theorem State.takeByte_flight (b : Byte) (f : Flight) : (s.takeByte b f).flight = some ⟨f.bytes.tail, f.response⟩ := rfl
@[simp] theorem State.takeByte_pins (b : Byte) (f : Flight) : (s.takeByte b f).pins = s.pins := rfl
@[simp] theorem State.takeByte_moves (b : Byte) (f : Flight) : (s.takeByte b f).moves = s.moves := rfl
@[simp] theorem State.takeByte_received (b : Byte) (f : Flight) : (s.takeByte b f).received = s.received ++ [.byte b] := rfl
@[simp] theorem State.takeByte_resets (b : Byte) (f : Flight) : (s.takeByte b f).resets = s.resets := rfl

/-! ### `takeResponse`: the host takes the response (R39) -/

@[simp] theorem State.takeResponse_lane1 (f : Flight) : (s.takeResponse f).lane1 = s.lane1 := rfl
@[simp] theorem State.takeResponse_lane2 (f : Flight) : (s.takeResponse f).lane2 = s.lane2 := rfl
@[simp] theorem State.takeResponse_seeded (f : Flight) : (s.takeResponse f).seeded = s.seeded := rfl
@[simp] theorem State.takeResponse_tbuf (f : Flight) : (s.takeResponse f).tbuf = s.tbuf := rfl
@[simp] theorem State.takeResponse_xbuf (f : Flight) : (s.takeResponse f).xbuf = s.xbuf := rfl
@[simp] theorem State.takeResponse_ybuf (f : Flight) : (s.takeResponse f).ybuf = s.ybuf := rfl
@[simp] theorem State.takeResponse_wbuf (f : Flight) : (s.takeResponse f).wbuf = s.wbuf := rfl
@[simp] theorem State.takeResponse_flight (f : Flight) : (s.takeResponse f).flight = none := rfl
@[simp] theorem State.takeResponse_pins (f : Flight) : (s.takeResponse f).pins = s.pins := rfl
@[simp] theorem State.takeResponse_moves (f : Flight) : (s.takeResponse f).moves = s.moves := rfl
@[simp] theorem State.takeResponse_received (f : Flight) : (s.takeResponse f).received = s.received ++ [.response f.response] := rfl
@[simp] theorem State.takeResponse_resets (f : Flight) : (s.takeResponse f).resets = s.resets := rfl

/-! ### `offering`: a command on the ports of an idle block -/

@[simp] theorem State.offering_lane1 (w : Word) (d : Data) : (s.offering w d).lane1 = s.lane1 := rfl
@[simp] theorem State.offering_lane2 (w : Word) (d : Data) : (s.offering w d).lane2 = s.lane2 := rfl
@[simp] theorem State.offering_seeded (w : Word) (d : Data) : (s.offering w d).seeded = s.seeded := rfl
@[simp] theorem State.offering_tbuf (w : Word) (d : Data) : (s.offering w d).tbuf = s.tbuf := rfl
@[simp] theorem State.offering_xbuf (w : Word) (d : Data) : (s.offering w d).xbuf = s.xbuf := rfl
@[simp] theorem State.offering_ybuf (w : Word) (d : Data) : (s.offering w d).ybuf = s.ybuf := rfl
@[simp] theorem State.offering_wbuf (w : Word) (d : Data) : (s.offering w d).wbuf = s.wbuf := rfl
@[simp] theorem State.offering_flight (w : Word) (d : Data) : (s.offering w d).flight = none := rfl
@[simp] theorem State.offering_pins (w : Word) (d : Data) : (s.offering w d).pins = ⟨false, true, w, d, s.pins.tick, s.pins.outReady, s.pins.rspReady⟩ := rfl
@[simp] theorem State.offering_moves (w : Word) (d : Data) : (s.offering w d).moves = s.moves := rfl
@[simp] theorem State.offering_received (w : Word) (d : Data) : (s.offering w d).received = s.received := rfl
@[simp] theorem State.offering_resets (w : Word) (d : Data) : (s.offering w d).resets = s.resets := rfl

/-! ### What the ports and the queue of moves become -/

theorem State.stageSeed_tbuf_low (v : Seed64) (k : Fin 8) :
    (s.stageSeed v).tbuf[k.val]'(by omega) = leByte 64 v k.val := by
  fin_cases k <;> rfl

@[simp] theorem State.hostMoves_lane1 : s.hostMoves.lane1 = s.lane1 := by
  unfold State.hostMoves; split <;> rfl
@[simp] theorem State.hostMoves_lane2 : s.hostMoves.lane2 = s.lane2 := by
  unfold State.hostMoves; split <;> rfl
@[simp] theorem State.hostMoves_seeded : s.hostMoves.seeded = s.seeded := by
  unfold State.hostMoves; split <;> rfl
@[simp] theorem State.hostMoves_tbuf : s.hostMoves.tbuf = s.tbuf := by
  unfold State.hostMoves; split <;> rfl
@[simp] theorem State.hostMoves_xbuf : s.hostMoves.xbuf = s.xbuf := by
  unfold State.hostMoves; split <;> rfl
@[simp] theorem State.hostMoves_ybuf : s.hostMoves.ybuf = s.ybuf := by
  unfold State.hostMoves; split <;> rfl
@[simp] theorem State.hostMoves_wbuf : s.hostMoves.wbuf = s.wbuf := by
  unfold State.hostMoves; split <;> rfl
@[simp] theorem State.hostMoves_flight : s.hostMoves.flight = s.flight := by
  unfold State.hostMoves; split <;> rfl
@[simp] theorem State.hostMoves_received : s.hostMoves.received = s.received := by
  unfold State.hostMoves; split <;> rfl
@[simp] theorem State.hostMoves_resets : s.hostMoves.resets = s.resets := by
  unfold State.hostMoves; split <;> rfl
@[simp] theorem State.hostMoves_moves : s.hostMoves.moves = s.moves.tail := by
  unfold State.hostMoves; split <;> simp_all
@[simp] theorem State.hostMoves_pins : s.hostMoves.pins = s.moves.headD Inputs.quiet := by
  unfold State.hostMoves; split <;> simp_all

/-- A state is its fields: the form in which two results are compared. -/
theorem State.eq_of_fields {s t : State} (h1 : s.lane1 = t.lane1) (h2 : s.lane2 = t.lane2)
    (h3 : s.seeded = t.seeded) (h4 : s.tbuf = t.tbuf) (h5 : s.xbuf = t.xbuf) (h6 : s.ybuf = t.ybuf)
    (h7 : s.wbuf = t.wbuf) (h8 : s.flight = t.flight) (h9 : s.pins = t.pins) (h10 : s.moves = t.moves)
    (h11 : s.received = t.received) (h12 : s.resets = t.resets) : s = t := by
  cases s; cases t; simp_all

end Sys2Proof.Machine
end

