-- ==== Sys2Proof/Laws/Ops.lean ====
section
/-!
SUPPORT. One lemma per shared operation that says everything it can do, to be cited where the operation would otherwise
be unfolded: how a command ends, what the extraction loop leaves alone, what the ports show, how a command is accepted,
what a step is.
-/

namespace Sys2Proof.Machine

/-! ### Ending a command -/

theorem State.respond_stagingZero (c : Status) (w : Word) (bs : List Byte) (s : State) :
    (s.respond c w bs).StagingZero := ⟨rfl, rfl, rfl, rfl⟩

theorem whenSeeded_of_seeded {s : State} (go : State → State) (h : s.seeded = true) :
    whenSeeded go s = .next (go s) := by simp [whenSeeded, h]

theorem whenSeeded_of_unseeded {s : State} (go : State → State) (h : s.seeded = false) :
    whenSeeded go s = .next (s.raise .notSeeded) := by simp [whenSeeded, h]

/-! ### Seeding -/

/-- Everything a seed command does once it has its raw lanes, the staging registers apart, which end zero (R40). -/
theorem State.seedFrom_eq (raw : Word × Word) (s : State) :
    s.seedFrom raw =
      { s.wipe with
        lane1 := (adv raw.1 raw.2).lane1
        lane2 := (adv raw.1 raw.2).lane2
        seeded := true
        flight := some ⟨[], ⟨.ok, 0⟩⟩ } := rfl

/-- The raw lanes read back from the staged and permuted bytes are `TSEED` of them (R42). -/
theorem State.rawLanes_staged (v : Seed64) (s : State) : ((s.stageSeed v).permute).rawLanes = tseed v := rfl

/-- Seeding from a 64-bit value goes through `TSEED` of it and leaves no trace of the staging (R43). -/
theorem State.seedFrom64_eq (v : Seed64) (s : State) : s.seedFrom64 v = s.seedFrom (tseed v) := rfl

/-! ### Extraction -/

theorem State.atIndex_of_dvd {i : Nat} (s : State) (h : i % 4 = 0) : s.atIndex i = s.draw := by
  simp [State.atIndex, h]

theorem State.atIndex_of_not_dvd {i : Nat} (s : State) (h : i % 4 ≠ 0) : s.atIndex i = s := by
  simp [State.atIndex, h]

/-- An index of the loop changes the lanes and `wbuf` only. -/
theorem State.atIndex_frame (i : Nat) (s : State) :
    ∃ l1 l2 w, s.atIndex i = { s with lane1 := l1, lane2 := l2, wbuf := w } := by
  by_cases h : i % 4 = 0
  · exact ⟨_, _, _, by rw [State.atIndex_of_dvd s h]; rfl⟩
  · exact ⟨_, _, _, by rw [State.atIndex_of_not_dvd s h]⟩

/-- The extraction loop changes the lanes and `wbuf` only. -/
theorem extractFrom_frame (k i : Nat) (s : State) :
    ∃ l1 l2 w, (extractFrom k i s).1 = { s with lane1 := l1, lane2 := l2, wbuf := w } := by
  induction k generalizing i s with
  | zero => exact ⟨_, _, _, rfl⟩
  | succ k ih =>
    obtain ⟨a, b, c, h⟩ := State.atIndex_frame i s
    obtain ⟨l1, l2, w, h'⟩ := ih (i + 1) (s.atIndex i)
    exact ⟨l1, l2, w, by simp only [extractFrom]; rw [h', h]⟩

/-- The extraction loop emits one byte per index. -/
theorem extractFrom_length (k i : Nat) (s : State) : (extractFrom k i s).2.length = k := by
  induction k generalizing i s with
  | zero => rfl
  | succ k ih => simp [extractFrom, ih]

/-- What `EXTRACT` and its response leave alone, and what is in flight after it. -/
theorem State.extract_frame (n : Nat) (s : State) :
    ∃ l1 l2 bs, bs.length = n ∧
      s.extract n = { s.wipe with lane1 := l1, lane2 := l2, flight := some ⟨bs, ⟨.ok, 0⟩⟩ } := by
  obtain ⟨l1, l2, w, h⟩ := extractFrom_frame n 0 s
  exact ⟨l1, l2, _, extractFrom_length n 0 s, by unfold State.extract; rw [h]; rfl⟩

/-! ### The output ports, in each of the four conditions the block can be in -/

theorem State.shownFlight_of_rst {s : State} (h : s.pins.rst = true) : s.shownFlight = none := by
  simp [State.shownFlight, h]

theorem State.shownFlight_of_noRst {s : State} (h : s.pins.rst = false) : s.shownFlight = s.flight := by
  simp [State.shownFlight, h]

/-- While `RST` is 1 the ports offer and accept nothing. -/
theorem State.ports_of_rst {s : State} (h : s.pins.rst = true) :
    s.cmdReady = false ∧ s.outByte = none ∧ s.rspOffer = none := by
  simp [State.cmdReady, State.outByte, State.rspOffer, shownFlight_of_rst h, h]

/-- An idle block accepts a command and offers nothing. -/
theorem State.ports_of_idle {s : State} (h : s.pins.rst = false) (hf : s.flight = none) :
    s.cmdReady = true ∧ s.outByte = none ∧ s.rspOffer = none := by
  simp [State.cmdReady, State.outByte, State.rspOffer, shownFlight_of_noRst h, h, hf]

/-- A block that owes bytes offers the next of them. -/
theorem State.ports_of_byte {s : State} {b : Byte} {bs : List Byte} {r : Response} (h : s.pins.rst = false)
    (hf : s.flight = some ⟨b :: bs, r⟩) : s.cmdReady = false ∧ s.outByte = some b ∧ s.rspOffer = none := by
  simp [State.cmdReady, State.outByte, State.rspOffer, shownFlight_of_noRst h, h, hf]

/-- A block that owes no byte any more offers the response. -/
theorem State.ports_of_response {s : State} {r : Response} (h : s.pins.rst = false)
    (hf : s.flight = some ⟨[], r⟩) : s.cmdReady = false ∧ s.outByte = none ∧ s.rspOffer = some r := by
  simp [State.cmdReady, State.outByte, State.rspOffer, shownFlight_of_noRst h, h, hf]

/-! ### Accepting a command, and the step -/

theorem State.accept_of_decode {s : State} {i : Instr} (h : decode s.pins.cmdWord s.pins.cmdData = .ok i) :
    s.accept = exec i s := by simp [State.accept, h]

theorem State.accept_of_illegal {s : State} {e : Illegal} (h : decode s.pins.cmdWord s.pins.cmdData = .error e) :
    s.accept = .next (s.raise .illegalCommand) := by simp [State.accept, h]

/-- A step answers what its moment answers, with the host's ports moved on. -/
theorem step_of_moment {s t : State} (h : s.moment = .next t) : step s = .next t.hostMoves := by
  simp [step, h]

theorem State.moment_of_rst {s : State} (h : s.pins.rst = true) : s.moment = .next s.takeReset := by
  simp [State.moment, h]

theorem State.moment_of_busy {s : State} {f : Flight} (h : s.pins.rst = false) (hf : s.flight = some f) :
    s.moment = .next (s.deliver f) := by
  simp [State.moment, h, hf]

theorem State.moment_of_offered {s : State} (h : s.Offered) : s.moment = s.accept := by
  obtain ⟨hf, hr, hv⟩ := h
  simp [State.moment, hf, hr, hv]

theorem State.moment_of_idle {s : State} (hr : s.pins.rst = false) (hf : s.flight = none)
    (hv : s.pins.cmdValid = false) : s.moment = .next s := by
  simp [State.moment, hf, hr, hv]

/-- What one moment can be: a reset, a transfer or a wait of a busy block, an acceptance, or an idle block left alone. -/
theorem State.moment_cases (s : State) :
    (s.pins.rst = true ∧ s.moment = .next s.takeReset) ∨
    (∃ f, s.pins.rst = false ∧ s.flight = some f ∧ s.moment = .next (s.deliver f)) ∨
    (s.Offered ∧ s.moment = s.accept) ∨
    (s.pins.rst = false ∧ s.flight = none ∧ s.pins.cmdValid = false ∧ s.moment = .next s) := by
  cases hr : s.pins.rst
  · cases hf : s.flight with
    | some f => exact .inr (.inl ⟨f, rfl, rfl, moment_of_busy hr hf⟩)
    | none =>
      cases hv : s.pins.cmdValid
      · exact .inr (.inr (.inr ⟨rfl, rfl, rfl, moment_of_idle hr hf hv⟩))
      · exact .inr (.inr (.inl ⟨⟨hf, hr, hv⟩, moment_of_offered ⟨hf, hr, hv⟩⟩))
  · exact .inl ⟨rfl, moment_of_rst hr⟩

end Sys2Proof.Machine
end

