-- ==== Sys2Proof/Laws/PerInstr.lean ====
section
/-!
SUPPORT. The family EncodedRow, per command: the encoder's command word selects the row of spec/opcode_table.json that
the command stands for (`w & mask = match`, spec/30_encoding.md section 3), and the modifier bit is what the command says.
-/

namespace Sys2Proof.Laws.EncodedRow

/-- The row's `match` value. -/
def rowMatch : Instr → Word
  | .seed128 _ => 0x00000001#32
  | .seed64 _ => 0x00000002#32
  | .seed32 _ => 0x00000003#32
  | .next _ => 0x00000004#32
  | .fill _ => 0x00000005#32
  | .gen _ => 0x00000006#32

/-- The row's `mask`: every bit, but for `M` where the row has it as a field. -/
def rowMask : Instr → Word
  | .seed128 _ => 0xFFFFFFFF#32
  | .seed64 _ => 0xFFFFFEFF#32
  | .seed32 _ => 0xFFFFFFFF#32
  | .next _ => 0xFFFFFEFF#32
  | .fill _ => 0xFFFFFFFF#32
  | .gen _ => 0xFFFFFFFF#32

/-- The modifier bit the command is written with (R33). -/
def modifier : Instr → Bool
  | .seed128 _ => false
  | .seed64 seed => seed.isNone
  | .seed32 _ => false
  | .next positiveOnly => positiveOnly
  | .fill _ => false
  | .gen _ => false

def Statement (i : Instr) : Prop :=
  encodeWord i &&& rowMask i = rowMatch i ∧ mField (encodeWord i) = modifier i

theorem seed128 (ident : Data) : Statement (.seed128 ident) := by
  simp [Statement, encodeWord, rowMask, rowMatch, mField, modifier]

theorem seed64 (seed : Option Seed64) : Statement (.seed64 seed) := by
  cases seed <;> simp [Statement, encodeWord, rowMask, rowMatch, mField, modifier]

theorem seed32 (seed : Word) : Statement (.seed32 seed) := by
  simp [Statement, encodeWord, rowMask, rowMatch, mField, modifier]

theorem next (positiveOnly : Bool) : Statement (.next positiveOnly) := by
  cases positiveOnly <;> simp [Statement, encodeWord, rowMask, rowMatch, mField, modifier]

theorem fill (length : Nat) : Statement (.fill length) := by
  simp [Statement, encodeWord, rowMask, rowMatch, mField, modifier]

theorem gen (length : Int) : Statement (.gen length) := by
  simp [Statement, encodeWord, rowMask, rowMatch, mField, modifier]

end Sys2Proof.Laws.EncodedRow
end

