-- ==== Sys2Proof/Laws/Pure.lean ====
section
/-!
SUPPORT. Small lemmas of the pure definitions: bytes of a word, the length range, the stream.
-/

namespace Sys2Proof.Machine

/-- Byte `k` of the four little-endian bytes of a word is `LE_k` of it. -/
theorem leBytes4_get (w : Word) (k : Nat) (h : k < 4) : (leBytes4 w)[k] = leByte 32 w k := by
  interval_cases k <;> rfl

/-- Byte `k` of an identifier is bits `[8k+7:8k]` (spec/20_memory.md R22). -/
theorem identBytes_get (d : Data) (k : Nat) (h : k < 16) : (identBytes d)[k] = d.extractLsb' (8 * k) 8 := by
  interval_cases k <;> rfl

theorem genInRange_iff (n : Int) : genInRange n = true ↔ 1 ≤ n ∧ n ≤ 32767 := by
  rw [genInRange, Bool.and_eq_true, decide_eq_true_iff, decide_eq_true_iff]; rfl

@[simp] theorem lanesAfter_zero (l : Word × Word) : lanesAfter 0 l = l := rfl

/-- Advancing `a` and then `b` times is advancing `a + b` times. -/
theorem lanesAfter_add (a b : Nat) (l : Word × Word) : lanesAfter (a + b) l = lanesAfter b (lanesAfter a l) := by
  induction a generalizing l with
  | zero => rw [Nat.zero_add]; rfl
  | succ a ih => rw [Nat.succ_add]; exact ih _

/-- The words after `a` draws are the words of the lanes those draws leave. -/
theorem drawnWord_add (a j : Nat) (l : Word × Word) : drawnWord (a + j) l = drawnWord j (lanesAfter a l) := by
  simp only [drawnWord, lanesAfter_add]

/-- The low half of a word as a number. -/
theorem and_halfMask_toNat (w : Word) : (w &&& halfMask).toNat = w.toNat % 2 ^ 16 := by
  rw [BitVec.toNat_and]; exact Nat.and_two_pow_sub_one_eq_mod _ 16

@[simp] theorem State.withTick_tick (v : Seed64) (s : State) : (s.withTick v).pins.tick = v := rfl
@[simp] theorem State.withTick_flight (v : Seed64) (s : State) : (s.withTick v).flight = s.flight := rfl
@[simp] theorem State.withTick_seeded (v : Seed64) (s : State) : (s.withTick v).seeded = s.seeded := rfl
@[simp] theorem State.withTick_lane1 (v : Seed64) (s : State) : (s.withTick v).lane1 = s.lane1 := rfl
@[simp] theorem State.withTick_lane2 (v : Seed64) (s : State) : (s.withTick v).lane2 = s.lane2 := rfl

end Sys2Proof.Machine
end

