-- ==== Sys2Proof/Machine/Source.lean ====
section
/-!
DEFINITION. The public operations of the source and the commands they are (spec/00_scope.md R2; spec/30_encoding.md R38).
-/

namespace Sys2Proof.Machine

/-- The source's public operations. -/
inductive PublicOp where
  /-- `Mixer(identifier)` -/
  | constructIdentifier (ident : Data)
  /-- `Mixer()` or `Mixer(seed)` with a 64-bit seed -/
  | constructOptional64 (seed : Option Seed64)
  /-- the restricted 32-bit constructor, an ordinary command in hardware (spec/60_exceptions.md R80) -/
  | construct32 (seed : Word)
  /-- `Next(positiveOnly)` -/
  | next (positiveOnly : Bool)
  /-- `FillBytes(buffer)`, of which the command needs the length; a null buffer is length 0 -/
  | fillBytes (bufferLength : Nat)
  /-- `GenerateBytes(length)` -/
  | generateBytes (length : Int)
  deriving DecidableEq, Repr

/-- The command of a public operation (R38). -/
def PublicOp.command : PublicOp → Instr
  | .constructIdentifier ident => .seed128 ident
  | .constructOptional64 seed => .seed64 seed
  | .construct32 seed => .seed32 seed
  | .next positiveOnly => .next positiveOnly
  | .fillBytes n => .fill n
  | .generateBytes n => .gen n

end Sys2Proof.Machine
end

