-- ==== Sys2Proof/Machine/Text.lean ====
section
/-!
DEFINITION. The textual syntax of commands and of the responses to them (spec/30_encoding.md R37). Where R37 allows a
decimal or a hexadecimal integer, integers are written in decimal, seeds by their signed value (log entry 25).
-/

namespace Sys2Proof.Machine

/-- A hexadecimal digit, upper case. -/
def hexDigit (v : BitVec 4) : String :=
  (["0", "1", "2", "3", "4", "5", "6", "7", "8", "9", "A", "B", "C", "D", "E", "F"])[v.toNat]'(by
    simpa using v.isLt)

/-- A byte as two hexadecimal digits. -/
def hexByte (b : Byte) : String := hexDigit (b.extractLsb' 4 4) ++ hexDigit (b.extractLsb' 0 4)

/-- A word as `0x` and eight hexadecimal digits. -/
def hexWord (w : Word) : String :=
  "0x" ++ hexByte (leByte 32 w 3) ++ hexByte (leByte 32 w 2) ++ hexByte (leByte 32 w 1) ++ hexByte (leByte 32 w 0)

/-- Bytes separated by spaces, index 0 first. -/
def hexBytes (bs : List Byte) : String := " ".intercalate (bs.map hexByte)

/-- One command, one line (R37). -/
def commandText : Instr → String
  | .seed128 ident => "SEED128 " ++ hexBytes (identBytes ident).toList
  | .seed64 (some v) => "SEED64 " ++ toString v.toInt
  | .seed64 none => "SEED64.T"
  | .seed32 v => "SEED32 " ++ toString v.toInt
  | .next false => "NEXT"
  | .next true => "NEXT.P"
  | .fill n => "FILL " ++ toString n
  | .gen n => "GEN " ++ toString n

/-- The suffix that gives the tick sampled with a command (R37). -/
def tickText (tick : Seed64) : String := " tick=" ++ toString tick.toNat

/-- The name of a status (R75). -/
def statusText : Status → String
  | .ok => "OK"
  | .invalidSeed => "InvalidSeed"
  | .outOfRange => "OutOfRange"
  | .notSeeded => "NotSeeded"
  | .illegalCommand => "IllegalCommand"

/-- What stands after `OK` in the answer to a command: the word of `NEXT`, the bytes of `FILL` and `GEN` (R37). -/
def okPayload : Instr → Flight → String
  | .next _, f => " " ++ hexWord f.response.word
  | .fill _, f => " [" ++ hexBytes f.bytes ++ "]"
  | .gen _, f => " [" ++ hexBytes f.bytes ++ "]"
  | .seed128 _, _ => ""
  | .seed64 _, _ => ""
  | .seed32 _, _ => ""

/-- The answer to a command, as R37 writes it. -/
def answerText (i : Instr) (f : Flight) : String :=
  "-> " ++ statusText f.response.status ++ (if f.response.status = .ok then okPayload i f else "")

end Sys2Proof.Machine
end

