-- ==== Sys2Proof/Tests/Slice0.lean ====
section
/-!
SUPPORT. The model's own tests. Expected values come from spec/: the worked examples of the rules and the vectors of
95_test_vectors.md (named V-… or P… beside each test). After them, a witness for the hypotheses of every statement.
-/

namespace Sys2Proof.Tests

open Sys2Proof.Machine

/-! ### Small states -/

/-- A block with these lanes and this flag, everything else as after reset. -/
def blk (l1 l2 : Word) (seeded : Bool) : State := { State.reset with lane1 := l1, lane2 := l2, seeded := seeded }

/-- The ports of a host that offers a command. -/
def offer (w : Word) (d : Data) (tick : Seed64) : Inputs := ⟨false, true, w, d, tick, false, false⟩

/-- The ports of a host that takes everything. -/
def taking : Inputs := ⟨false, false, 0, 0, 0, true, true⟩

/-- The block with these ports. -/
def withPins (p : Inputs) (moves : List Inputs) (s : State) : State := { s with pins := p, moves := moves }

/-- The next state, if there is one. -/
def nextOf : Result → Option State
  | .next t => some t
  | .fault _ => none
  | .refused _ => none

/-- What a command leaves: the lanes, the flag and what it owes. -/
def leaves (i : Instr) (s : State) : Option (Word × Word × Bool × Option Flight) :=
  (nextOf (exec i s)).map fun t => (t.lane1, t.lane2, t.seeded, t.flight)

/-- `OK` with no byte and no word. -/
def done : Option Flight := some ⟨[], ⟨.ok, 0⟩⟩

/-- An error. -/
def failed (e : Status) : Option Flight := some ⟨[], ⟨e, 0⟩⟩

/-- The state after `SEED64 12345` (V-SEED64-1), the start of the spec's `NEXT`, `FILL` and `GEN` vectors. -/
def s12345 : State := blk 0x00000039#32 0x50BD7000#32 true

/-! ### Well-formedness: each check refuses a term -/

theorem test_wf_fill_too_long : wellFormed (.fill (2 ^ 32)) = false := by decide
theorem test_wf_gen_too_long : wellFormed (.gen (2 ^ 31)) = false := by decide
theorem test_wf_gen_too_negative : wellFormed (.gen (-2 ^ 31 - 1)) = false := by decide
theorem test_wf_bounds : (wellFormed (.fill (2 ^ 32 - 1)) && wellFormed (.gen (2 ^ 31 - 1)) &&
    wellFormed (.gen (-2 ^ 31))) = true := by decide

/-! ### Decoding: words written out from R31 (RSV, M, OP) and R32 (V-DEC) -/

theorem test_decode_seed128 : decode (0b00000000000000000000000#23 ++ 0b0#1 ++ 0b00000001#8) 7#128 =
    .ok (.seed128 7#128) := by decide
theorem test_decode_seed64 : decode (0b00000000000000000000000#23 ++ 0b0#1 ++ 0b00000010#8) (9#64 ++ 0x3039#64) =
    .ok (.seed64 (some 12345#64)) := by decide
theorem test_decode_seed64_tick : decode (0b00000000000000000000000#23 ++ 0b1#1 ++ 0b00000010#8) 7#128 =
    .ok (.seed64 none) := by decide
theorem test_decode_seed32 : decode (0b00000000000000000000000#23 ++ 0b0#1 ++ 0b00000011#8) (9#96 ++ 0xDEADBEEF#32) =
    .ok (.seed32 0xDEADBEEF#32) := by decide
theorem test_decode_next : decode (0b00000000000000000000000#23 ++ 0b0#1 ++ 0b00000100#8) (-1#128) =
    .ok (.next false) := by decide
theorem test_decode_next_positive : decode (0b00000000000000000000000#23 ++ 0b1#1 ++ 0b00000100#8) 0#128 =
    .ok (.next true) := by decide
theorem test_decode_fill : decode (0b00000000000000000000000#23 ++ 0b0#1 ++ 0b00000101#8) (9#96 ++ 0xFFFFFFFF#32) =
    .ok (.fill (2 ^ 32 - 1)) := by decide
theorem test_decode_gen : decode (0b00000000000000000000000#23 ++ 0b0#1 ++ 0b00000110#8) (9#96 ++ 0xFFFFFFFF#32) =
    .ok (.gen (-1)) := by decide
/-- V-DEC-9, -10, -11 -/
theorem test_decode_reserved_op : (decode 0x00000000#32 0, decode 0x00000007#32 0, decode 0x000000FF#32 0) =
    (.error .reservedOp, .error .reservedOp, .error .reservedOp) := by decide
/-- V-DEC-12 -/
theorem test_decode_stray_modifier :
    (decode 0x00000101#32 1, decode 0x00000103#32 0, decode 0x00000105#32 0, decode 0x00000106#32 0) =
    (.error .strayModifier, .error .strayModifier, .error .strayModifier, .error .strayModifier) := by decide
/-- V-DEC-13 -/
theorem test_decode_reserved_bits : (decode 0x00000204#32 0, decode 0x80000004#32 0, decode 0x00010002#32 0) =
    (.error .reservedBits, .error .reservedBits, .error .reservedBits) := by decide
/-- The table's numbering: `M` is bit 8 of the row. -/
theorem test_table_word : (decodeTableWord 32 0x102, decodeTableWord 32 6, decodeTableWord 32 0) =
    (some (.seed64 none), some (.gen 0), none) := by decide

/-! ### Meanings -/

/-- V-ADV-8 and V-ADV-6: the shift of lane 1 is arithmetic. -/
theorem test_adv_arithmetic_shift :
    adv 0xFFFF0000#32 0xFFFF0000#32 = ⟨0xFFFFFFFF#32, 0#32, 0xFFFFFFFF#32⟩ ∧
    adv 0x80000000#32 0x80000000#32 = ⟨0xFFFF8000#32, 0#32, 0xFFFF8000#32⟩ := by decide
/-- V-ADV-11 -/
theorem test_adv_both_lanes :
    adv 0x12345678#32 0x9ABCDEF0#32 = ⟨0x0D341EFC#32, 0x76FFD930#32, 0x7BCBC7CC#32⟩ := by decide
/-- V-SEED128-7 -/
theorem test_seed128 : leaves (.seed128 0x76543210EFCDAB8967452301EFBEADDE#128) (blk 5 6 false) =
    some (0x00057F3C#32, 0#32, true, done) := by decide
/-- V-SEED128-1 on a seeded block: the old stream goes on (P2, step 16). -/
theorem test_seed128_zero : leaves (.seed128 0#128) (blk 5 6 true) = some (5, 6, true, failed .invalidSeed) := by decide
/-- V-SEED64-3 -/
theorem test_seed64 : leaves (.seed64 (some 0x0123456789ABCDEF#64)) (blk 5 6 false) =
    some (0x05678B30#32, 0x58D5679D#32, true, done) := by decide
/-- V-SEED64-9 -/
theorem test_seed64_tick : leaves (.seed64 none) (withPins (offer 0 0 0x0123456789ABCDEF#64) [] (blk 5 6 true)) =
    some (0x05678B30#32, 0x58D5679D#32, true, done) := by decide
/-- V-SEED32-6: both halves negative. -/
theorem test_seed32 : leaves (.seed32 0xDEADBEEF#32) (blk 5 6 false) =
    some (0x1D279078#32, 0x768F2619#32, true, done) := by decide
/-- V-SEED32-7 -/
theorem test_seed32_zero : leaves (.seed32 0#32) (withPins (offer 0 0 0x0123456789ABCDEF#64) [] (blk 5 6 false)) =
    some (0x05678B30#32, 0x58D5679D#32, true, done) := by decide
/-- V-NEXT-1, first word. -/
theorem test_next : leaves (.next false) s12345 =
    some (0x0008B41F#32, 0xBC64B000#32, true, some ⟨[], ⟨.ok, 0xBC6C041F#32⟩⟩) := by decide
/-- V-NEXT-5: the minimum value. -/
theorem test_next_positive_minimum : leaves (.next true) (blk 0x114FBCB5#32 0x00035D3A#32 true) =
    some (0x1CD09892#32, 0x9CD09892#32, true, some ⟨[], ⟨.ok, 0x80000000#32⟩⟩) := by decide
/-- V-FILL-5 -/
theorem test_fill : leaves (.fill 5) s12345 =
    some (0x1B80E7D1#32, 0x280BF000#32, true, some ⟨[0x1F, 0x04, 0x6C, 0xBC, 0xD1], ⟨.ok, 0⟩⟩) := by decide
/-- V-FILL-NS -/
theorem test_fill_not_seeded : leaves (.fill 0) (blk 5 6 false) = some (5, 6, false, failed .notSeeded) := by decide
/-- V-GEN-5 -/
theorem test_gen : leaves (.gen 4) s12345 =
    some (0x0008B41F#32, 0xBC64B000#32, true, some ⟨[0x1F, 0x04, 0x6C, 0xBC], ⟨.ok, 0⟩⟩) := by decide
/-- V-GEN-2, V-GEN-6 -/
theorem test_gen_out_of_range : leaves (.gen 32768) (blk 5 6 true) = some (5, 6, true, failed .outOfRange) ∧
    leaves (.gen (-1)) (blk 5 6 true) = some (5, 6, true, failed .outOfRange) := by decide

/-! ### The step, from reset and with the host (P2, step 11; R30, R39, R88) -/

theorem test_reset_then_seed : ((nextOf (step (State.reset.withFetchWord 32 3))).map fun t => (t.seeded, t.flight)) =
    some (true, done) := by decide
theorem test_reset_then_next : ((nextOf (step (State.reset.withFetchWord 32 4))).map fun t => (t.seeded, t.flight)) =
    some (false, failed .notSeeded) := by decide
theorem test_step_illegal : ((nextOf (step (withPins (offer 7 0 0) [] (blk 5 6 true)))).map
    fun t => (t.lane1, t.lane2, t.flight)) = some (5, 6, failed .illegalCommand) := by decide
theorem test_byte_taken : ((nextOf (step { withPins taking [] s12345 with
    flight := some ⟨[1, 2], ⟨.ok, 0⟩⟩ })).map fun t => (t.received, t.flight)) =
    some ([.byte 1], some ⟨[2], ⟨.ok, 0⟩⟩) := by decide
/-- R85, R30: at the moment `RST` is 1 no output handshake is 1, whether a command is in flight or not. -/
theorem test_ports_at_reset :
    (({ withPins { taking with rst := true } [] s12345 with flight := some ⟨[1], ⟨.ok, 0⟩⟩ } : State).outValid,
      ({ withPins { taking with rst := true } [] s12345 with flight := done } : State).rspValid,
      (withPins { offer 4 0 0 with rst := true } [] s12345).cmdReady) = (false, false, false) := by decide
/-- R11, R85: `SEEDED` on a seeded block as `RST` rises (log entry 28), and after the reset step. -/
theorem test_seeded_at_reset : (withPins { taking with rst := true } [] s12345).seededPort = true ∧
    ((nextOf (step (withPins { taking with rst := true } [] s12345))).map State.seededPort) = some false := by decide
/-- R94: with nothing left to come, a run has ended once the last response is taken, and not before. -/
theorem test_run_ended : (withPins taking [] s12345).runEnded = true ∧
    ({ withPins taking [] s12345 with flight := done } : State).runEnded = false ∧
    (withPins taking [offer 4 0 0] s12345).runEnded = false := by decide
theorem test_observation : responsesFrom [] [.byte 1, .reset, .byte 2, .byte 3, .response ⟨.ok, 0⟩] =
    [(⟨.ok, 0⟩, [2, 3])] := by decide

/-! ### The text form (R37, R38) -/

theorem test_text_seed128 : commandText (.seed128 0x76543210EFCDAB8967452301EFBEADDE#128) =
    "SEED128 DE AD BE EF 01 23 45 67 89 AB CD EF 10 32 54 76" := by decide
theorem test_text_answers : (answerText (.next false) ⟨[], ⟨.ok, 0xBC6C041F#32⟩⟩,
    answerText (.fill 4) ⟨[0x1F, 0x04, 0x6C, 0xBC], ⟨.ok, 0⟩⟩, answerText (.gen 0) ⟨[], ⟨.outOfRange, 0⟩⟩) =
    ("-> OK 0xBC6C041F", "-> OK [1F 04 6C BC]", "-> OutOfRange") := by decide
theorem test_public_op : (PublicOp.constructOptional64 none).command = .seed64 none := by decide

/-! ### Witnesses: concrete states and operands that meet the hypotheses of the statements -/

theorem witness_DecodeOfEncode : wellFormed (.gen (-2 ^ 31)) = true ∧ wellFormed (.fill (2 ^ 32 - 1)) = true := by decide
theorem witness_DecodedCommandIsCanonical : decode 0x00000102#32 5#128 = .ok (.seed64 none) := by decide

theorem witness_IllegalCommandIsAnswered :
    ((0x00000007#32 : Word).toNat % 256 = 7 ∧ (0x000000FF#32 : Word).toNat % 256 = 255) ∧
    (0x00000000#32 : Word).toNat % 256 = 0 ∧ (0x00000204#32 : Word).toNat / 512 = 1 ∧
    ((0x00000101#32 : Word).toNat / 256 % 2 = 1 ∧ (0x00000101#32 : Word).toNat % 256 = 1) := by decide

theorem witness_StepRunsDecodedCommand :
    ((withPins (offer 0x00000104#32 0 0) [taking] s12345).Offered ∧ decode 0x00000104#32 0 = .ok (.next true)) ∧
    ((withPins (offer 0x00000007#32 0 0) [] s12345).Offered ∧ decode 0x00000007#32 0 = .error .reservedOp) ∧
    ((withPins taking [taking] s12345).flight = none ∧ (withPins taking [taking] s12345).pins.rst = false ∧
      (withPins taking [taking] s12345).pins.cmdValid = false) :=
  ⟨⟨⟨rfl, rfl, rfl⟩, by decide⟩, ⟨⟨rfl, rfl, rfl⟩, by decide⟩, by decide⟩

/-- A busy block with bytes still owed, before a host that takes everything. -/
def busy : State := { withPins taking [taking, taking] s12345 with flight := some ⟨[1, 2], ⟨.ok, 0⟩⟩ }

/-- A busy block with only its response owed. -/
def answering : State := { withPins taking [taking] s12345 with flight := some ⟨[], ⟨.ok, 7⟩⟩ }

theorem witness_TransfersInOrder :
    (busy.pins.rst = false ∧ busy.flight = some ⟨1 :: [2], ⟨.ok, 0⟩⟩) ∧
    (answering.pins.rst = false ∧ answering.flight = some ⟨[], ⟨.ok, 7⟩⟩) := by decide
theorem witness_PortsExcludeOneAnother : answering.pins.rst = false ∧ answering.rspStatus = some 0 ∧
    ({ busy with pins := { taking with rst := true } } : State).pins.rst = true := by decide
/-- Each channel in transfer, and a byte held. -/
theorem witness_ChannelsTransferWhenBothAreHigh :
    ((withPins (offer 4 0 0) [] s12345).pins.cmdValid = true ∧ (withPins (offer 4 0 0) [] s12345).cmdReady = true) ∧
    (busy.outByte = some 1 ∧ busy.pins.outReady = true) ∧
    (answering.rspOffer = some ⟨.ok, 7⟩ ∧ answering.pins.rspReady = true) ∧
    (({ busy with pins := { taking with outReady := false } } : State).outValid = true ∧
      ({ busy with pins := { taking with outReady := false } } : State).pins.outReady = false) := by decide
theorem witness_BusyBlockIgnoresCommandPorts : busy.flight = some ⟨[1, 2], ⟨.ok, 0⟩⟩ ∧
    (⟨false, true, 1, 1, 9, true, true⟩ : Inputs).rst = busy.pins.rst ∧
    (⟨false, true, 1, 1, 9, true, true⟩ : Inputs).outReady = busy.pins.outReady ∧
    (⟨false, true, 1, 1, 9, true, true⟩ : Inputs).rspReady = busy.pins.rspReady := by decide
theorem witness_EveryCommandEnds : busy.flight = some ⟨[1, 2], ⟨.ok, 0⟩⟩ ∧ [1, 2].length ≤ busy.moves.length ∧
    ∀ p ∈ busy.pins :: busy.moves.take 2, p.Accepts := by
  refine ⟨rfl, by decide, fun p hp => ?_⟩
  have : p = taking := by simpa [busy, withPins] using hp
  subst this; exact ⟨rfl, rfl, rfl⟩
theorem witness_ResetAbandonsTheCommand : ({ busy with pins := { taking with rst := true } } : State).pins.rst = true ∧
    ({ busy with pins := { taking with rst := true } } : State).flight ≠ none := by decide
/-- After a command's response, and after a reset that abandoned one. -/
theorem witness_EndedRunStaysEnded :
    ((nextOf (step (withPins taking [] answering))).map State.runEnded = some true) ∧
    ((nextOf (step (withPins { taking with rst := true } [] busy))).map State.runEnded = some true) ∧
    (withPins taking [] s12345).runEnded = true ∧ ∃ t, StepsTo 1 (withPins taking [] s12345) t :=
  ⟨rfl, rfl, rfl, _, _, rfl, rfl⟩
theorem witness_IdleRecordIsClosed :
    ({ withPins taking [] s12345 with received := [.byte 1, .response ⟨.ok, 0⟩] } : State).flight = none ∧
    recordClosed [.byte 1, .response ⟨.ok, 0⟩] = true ∧ recordClosed [.byte 1, .reset] = true ∧
    recordClosed [.byte 1] = false ∧
    ({ withPins taking [] s12345 with received := [.byte 1, .response ⟨.ok, 0⟩] } : State).runEnded = true ∧
    (busy.flight = none → recordClosed busy.received = true) ∧ ∃ t, step busy = .next t :=
  ⟨rfl, rfl, rfl, rfl, rfl, fun h => absurd h (by decide), _, rfl⟩
theorem witness_Lane2IsAProductOfItsLowHalf : (0xFFFF0000#32 : Word).extractLsb' 0 16 = 0#16 := by decide
theorem witness_AbsoluteValue : (5#32 : Word).getLsbD 31 = false ∧ (0x80000000#32 : Word).getLsbD 31 = true ∧
    (0x80000001#32 : Word) ≠ 0x80000000#32 := by decide
theorem witness_NextReturnsTheWord : s12345.seeded = true ∧ s12345.lane1 = 0x00000039#32 ∧
    s12345.lane2 = 0x50BD7000#32 ∧ (blk 5 6 false).seeded = false ∧
    ((blk 0 0 true).seeded = true ∧ (blk 0 0 true).lane1 = 0#32 ∧ (blk 0 0 true).lane2 = 0#32) := by decide
theorem witness_Seed128SeedsOrRejects : (∀ k < 16, (0#128 : Data).extractLsb' (8 * k) 8 = 0#8) ∧
    ∃ k < 16, (0x100#128 : Data).extractLsb' (8 * k) 8 ≠ 0#8 := by decide
theorem witness_SeedBytesArePermutedAsPrinted :
    (0x0000FF0000000000#64 : Seed64).extractLsb' 0 40 = (0#64 : Seed64).extractLsb' 0 40 ∧
    (0x0000FF0000000000#64 : Seed64).extractLsb' 48 16 = (0#64 : Seed64).extractLsb' 48 16 := by decide
theorem witness_Seed64Seeds :
    (0x0000FF0000000000#64 : Seed64).extractLsb' 0 40 = (0#64 : Seed64).extractLsb' 0 40 ∧
    (0x0000FF0000000000#64 : Seed64).extractLsb' 48 16 = (0#64 : Seed64).extractLsb' 48 16 := by decide
theorem witness_Seed32Seeds : (0x00010000#32 : Word) ≠ 0#32 ∧ (0x00010000#32 : Word).extractLsb' 0 16 = 0#16 := by decide
theorem witness_SameSeedSameStream :
    (withPins (offer 0x00000002#32 12345 1) [taking] (blk 1 2 true)).Offered ∧
    (withPins (offer 0x00000002#32 12345 2) [taking] (blk 3 4 false)).flight = none ∧
    (withPins (offer 0x00000002#32 12345 2) [taking] (blk 3 4 false)).pins =
      ((withPins (offer 0x00000002#32 12345 1) [taking] (blk 1 2 true)).withTick 2).pins ∧
    decode 0x00000002#32 12345 = .ok (.seed64 (some 12345)) ∧ isSeed (.seed64 (some 12345)) = true ∧
    usesTick (.seed64 (some 12345)) = false := ⟨⟨rfl, rfl, rfl⟩, by decide⟩
theorem witness_FillStreamsTheBytes : s12345.seeded = true ∧ (blk 5 6 false).seeded = false ∧
    s12345.lane1 = 0x00000039#32 ∧ s12345.lane2 = 0x50BD7000#32 := by decide
theorem witness_GenStreamsTheBytesInRange : s12345.seeded = true ∧ ((1 : Int) ≤ 1 ∧ (1 : Int) ≤ 32767) ∧
    ((1 : Int) ≤ 32767 ∧ (32767 : Int) ≤ 32767) ∧ ((0 : Int) < 1 ∨ 32767 < (0 : Int)) ∧
    ((32768 : Int) < 1 ∨ 32767 < (32768 : Int)) ∧ (blk 5 6 false).seeded = false := by decide
theorem witness_ByteAndWordViewsAgree : s12345.seeded = true ∧ 1 ≤ 5 ∧ 5 ≤ 32767 := by decide
theorem witness_GroupingRestartsInEveryCommand : s12345.seeded = true ∧ Extracts (.fill 0) 0 ∧ Extracts (.fill 2) 2 ∧
    Extracts (.gen 2) 2 ∧ Extracts (.gen 4) 4 ∧ Extracts (.gen 1) 1 ∧ Extracts (.gen 32767) 32767 := by
  refine ⟨rfl, .inl rfl, .inl rfl, ?_, ?_, ?_, ?_⟩ <;> exact .inr ⟨rfl, by decide, by decide⟩
theorem witness_PipelineRefinesExtraction :
    (Pipe.run (List.replicate 4 true) (Pipe.start 2 s12345)).done = true := by decide
theorem witness_ErrorsHaveTheirCauses : (blk 5 6 false).seeded = false ∧ isSeed (.fill 0) = false ∧
    expectedStatus true (.gen 0) ≠ .ok := by decide
theorem witness_ErrorsHaveNoEffect : ∃ t, (withPins (offer 6 0 0) [] s12345).accept = .next t ∧
    t.flight = some ⟨[], ⟨.outOfRange, 0⟩⟩ := ⟨_, rfl, by decide⟩
theorem witness_FailedCommandLeavesNoTrace : ∃ t u,
    (withPins (offer 7 0 0) [taking, taking] s12345).Offered ∧
    step (withPins (offer 7 0 0) [taking, taking] s12345) = .next t ∧
    t.flight = some ⟨[], ⟨.illegalCommand, 0⟩⟩ ∧ step t = .next u := ⟨_, _, ⟨rfl, rfl, rfl⟩, rfl, rfl, rfl⟩
theorem witness_TheseNeverFail : (1#128 : Data) ≠ 0#128 ∧ s12345.seeded = true := by decide
theorem witness_ResponseShape : leaves (.next false) s12345 =
    some (0x0008B41F#32, 0xBC64B000#32, true, some ⟨[], ⟨.ok, 0xBC6C041F#32⟩⟩) ∧
    leaves (.gen 0) (blk 5 6 true) = some (5, 6, true, failed .outOfRange) := by decide
theorem witness_FrameOfEveryCommand : isSeed (.gen 3) = false ∧ isSeed (.fill 0) = false := by decide
theorem witness_StagingWipedOnEveryExit :
    ({ busy with pins := { taking with rst := true } } : State).pins.rst = true := by decide

/-- A seeded block in mid-delivery that has the invariant: its lanes are those of `ADV(1, 1)` (V-ADV-2). -/
def shuffled : State :=
  { withPins taking [taking] (blk 0x00002717#32 0x0001AE9D#32 true) with flight := some ⟨[1, 2], ⟨.ok, 0⟩⟩ }

theorem witness_EveryStepKeepsTheInvariant : shuffled.Inv ∧ ∃ t, step shuffled = .next t := by
  refine ⟨⟨⟨rfl, rfl, rfl, rfl⟩, fun _ => ⟨1, 1, by decide, by decide⟩, fun f hf => ?_⟩, _, rfl⟩
  cases hf; exact ⟨⟨fun h => absurd rfl h, fun _ => rfl⟩, fun _ => rfl⟩
theorem witness_SeededLanesAreInRange : shuffled.Inv ∧ shuffled.seeded = true :=
  ⟨witness_EveryStepKeepsTheInvariant.1, rfl⟩
theorem witness_NoOutputWhileUnseeded :
    ({ withPins taking [] (blk 5 6 false) with flight := failed .notSeeded } : State).Inv ∧
    (blk 5 6 false).seeded = false := by
  refine ⟨⟨⟨rfl, rfl, rfl, rfl⟩, fun h => absurd h (by decide), fun f hf => ?_⟩, rfl⟩
  cases hf; exact ⟨⟨fun _ => ⟨rfl, rfl⟩, fun h => absurd rfl h⟩, fun h => absurd h (by decide)⟩
theorem witness_HiddenStateStaysHidden : SameToHost (blk 1 2 false) { blk 3 4 false with wbuf := #v[9, 9, 9, 9], resets := 4 } ∧
    (blk 1 2 false).lane1 ≠ (blk 3 4 false).lane1 := by
  refine ⟨⟨rfl, fun h => absurd h (by decide), rfl, rfl, rfl⟩, by decide⟩
theorem witness_TickReadByTickFormsOnly : usesTick (.seed32 1#32) = false := by decide
theorem witness_ZeroLanesStayZero : isSeed (.next false) = false ∧ (blk 0 0 true).lane1 = 0#32 ∧
    (blk 0 0 true).lane2 = 0#32 ∧ (blk 0 0 true).seeded = true := by decide

end Sys2Proof.Tests
end

section
/-!
PROOFS of the statements of spec/30_encoding.md: the fields of a command word as numbers, which fields the decoder
rejects, and the operand of each legal word.
-/

namespace Sys2Proof

/-! ### The fields of the command word, as numbers (R31) -/

theorem opField_toNat (w : Word) : (opField w).toNat = w.toNat % 256 := by
  simp [opField]

theorem mField_eq_true_iff (w : Word) : mField w = true ↔ w.toNat / 256 % 2 = 1 := by
  rw [mField, BitVec.getLsbD, Nat.testBit_eq_decide_div_mod_eq, decide_eq_true_iff]

theorem rsvField_toNat (w : Word) : (rsvField w).toNat = w.toNat / 512 := by
  have hw := w.isLt
  rw [rsvField, BitVec.extractLsb'_toNat, Nat.shiftRight_eq_div_pow]
  omega

theorem rsvField_eq_zero_iff (w : Word) : rsvField w = 0#23 ↔ w.toNat / 512 = 0 := by
  rw [← BitVec.toNat_inj, rsvField_toNat, BitVec.toNat_zero]

/-! ### What the decoder rejects (R35) -/

theorem noModifier_rejects_iff (m : Bool) (i : Instr) : (∃ e, noModifier m i = .error e) ↔ m = true := by
  cases m <;> simp [noModifier]

/-- `OP` and `M` are rejected exactly when `OP` is reserved, or `M` is set and `OP` has no modifier. -/
theorem decodeOp_rejects_iff (op : Byte) (m : Bool) (d : Data) :
    (∃ e, decodeOp op m d = .error e) ↔
      (op.toNat = 0 ∨ 7 ≤ op.toNat) ∨ (m = true ∧ op.toNat ≠ 2 ∧ op.toNat ≠ 4) := by
  fun_cases decodeOp op m d
  case case7 h1 h2 h3 h4 h5 h6 =>
    have hop : op.toNat = 0 ∨ 7 ≤ op.toNat := by bv_omega
    exact iff_of_true ⟨_, rfl⟩ (.inl hop)
  all_goals
    subst op
    simp [noModifier_rejects_iff]

/-- A word is illegal exactly when `RSV` is not zero or its `OP` and `M` are rejected; `CMD_DATA` has no say. -/
theorem decode_rejects_iff (w : Word) (d : Data) :
    (∃ e, decode w d = .error e) ↔ rsvField w ≠ 0#23 ∨ ∃ e, decodeOp (opField w) (mField w) d = .error e := by
  by_cases h : rsvField w = 0#23 <;> simp [decode, h]

/-- The same in the numbers of the three fields. -/
theorem decode_rejects_iff_toNat (w : Word) (d : Data) :
    (∃ e, decode w d = .error e) ↔
      (w.toNat % 256 = 0 ∨ 7 ≤ w.toNat % 256) ∨ w.toNat / 512 ≠ 0 ∨
        (w.toNat / 256 % 2 = 1 ∧ w.toNat % 256 ≠ 2 ∧ w.toNat % 256 ≠ 4) := by
  rw [decode_rejects_iff, decodeOp_rejects_iff, opField_toNat, mField_eq_true_iff, ne_eq, rsvField_eq_zero_iff,
    or_left_comm]

/-- Settles O5: legality is read off the three fields, and an illegal word is answered by `State.raise`, which is the
wipe and the response. -/
theorem illegalCommandIsAnswered : Obligations.IllegalCommandIsAnswered := by
  unfold Obligations.IllegalCommandIsAnswered
  rintro s op m rsv rfl rfl rfl
  have rejects := decode_rejects_iff_toNat s.pins.cmdWord s.pins.cmdData
  refine ⟨rejects, fun illegal tick => ?_⟩
  obtain ⟨e, he⟩ := rejects.mpr illegal
  exact Machine.State.accept_of_illegal (s := s.withTick tick) he

/-! ### The operands of the legal words (R34) -/

/-- The length `FILL` reads, the low 32 bits unsigned. -/
theorem lowWord_toNat (d : Data) : (d.extractLsb' 0 32).toNat = d.toNat % 2 ^ 32 := by
  rw [BitVec.extractLsb'_toNat, Nat.shiftRight_zero]

/-- The length `GEN` reads, the low 32 bits in two's complement. -/
theorem lowWord_toInt (d : Data) : (d.extractLsb' 0 32).toInt = Int.bmod d.toNat (2 ^ 32) := by
  rw [BitVec.toInt_eq_toNat_bmod, lowWord_toNat, Int.natCast_mod, Int.emod_bmod]

theorem decode_fillWord (d : Data) : decode 0x00000005#32 d = .ok (.fill (d.toNat % 2 ^ 32)) := by
  rw [← lowWord_toNat]; rfl

theorem decode_genWord (d : Data) : decode 0x00000006#32 d = .ok (.gen (Int.bmod d.toNat (2 ^ 32))) := by
  rw [← lowWord_toInt]; rfl

/-- An absent 64-bit seed is the sampled tick (R43). -/
theorem exec_seed64_none (s : Machine.State) :
    Machine.exec (.seed64 none) s = Machine.exec (.seed64 (some s.pins.tick)) s := rfl

/-- A zero 32-bit seed is an absent seed (R44). -/
theorem exec_seed32_zero (s : Machine.State) :
    Machine.exec (.seed32 0#32) s = Machine.exec (.seed64 none) s := rfl

/-- Settles O3: the decoder evaluates on each of the eight words with `CMD_DATA` left open; what is not evaluation is
the numeric reading of the two lengths, the bytes the staging holds, and the two paths that take the tick. -/
theorem operandsAreAssembledAsTabled : Obligations.OperandsAreAssembledAsTabled := by
  unfold Obligations.OperandsAreAssembledAsTabled
  intro d v s
  have identByte : ∀ (k : Nat) (h : k < 16), (s.stageIdent d).tbuf[k] = d.extractLsb' (8 * k) 8 :=
    Machine.identBytes_get d
  have seedByte : ∀ (k : Nat) (h : k < 8), (s.stageSeed v).tbuf[k] = v.extractLsb' (8 * k) 8 :=
    fun k h => s.stageSeed_tbuf_low v ⟨k, h⟩
  exact ⟨rfl, identByte, rfl, seedByte, rfl, exec_seed64_none s, rfl, exec_seed32_zero s, rfl, rfl,
    decode_fillWord d, decode_genWord d⟩

end Sys2Proof
end

section
/-!
PROOFS of the statements of spec/40_seed.md: the advancement of zero lanes and of small lanes, the raw lanes of each seed
form, what each seed command leaves, and that every command ends in `State.respond`, which wipes the staging registers.
-/

namespace Sys2Proof.Machine

/-! ### Advancing a zero lane and a lane of one byte (R50 to R52) -/

/-- A zero lane 1 stays zero, whatever lane 2 is. -/
theorem adv_zero_lane1 (l2 : Word) : (adv 0#32 l2).lane1 = 0#32 :=
  show advLane1 0#32 = 0#32 by decide

/-- A zero lane 2 stays zero, whatever lane 1 is. -/
theorem adv_zero_lane2 (l1 : Word) : (adv l1 0#32).lane2 = 0#32 :=
  show advLane2 0#32 = 0#32 by decide

/-- With a zero lane 2 the word drawn is lane 1 (R41). -/
theorem adv_raw_of_zero_lane2 (l1 : Word) : (adv l1 0#32).raw = (adv l1 0#32).lane1 :=
  calc (adv l1 0#32).raw = (adv l1 0#32).lane1 ^^^ (adv l1 0#32).lane2 := rfl
    _ = (adv l1 0#32).lane1 := by rw [adv_zero_lane2, BitVec.xor_zero]

/-- A lane 1 that fits its low half has no high half to shift in: the update is the product alone (R51). -/
theorem advLane1_of_lt {l1 : Word} (h : l1.toNat < 2 ^ 16) : advLane1 l1 = 10007#32 * l1 := by
  have hlow : l1 &&& halfMask = l1 := by
    apply BitVec.eq_of_toNat_eq
    rw [and_halfMask_toNat, Nat.mod_eq_of_lt h]
  have hmsb : l1.msb = false := by rw [BitVec.msb_eq_false_iff_two_mul_lt]; omega
  have hhigh : l1.sshiftRight shiftDistance = 0#32 := by
    rw [BitVec.sshiftRight_eq_of_msb_false hmsb]
    apply BitVec.eq_of_toNat_eq
    rw [BitVec.toNat_ushiftRight, Nat.shiftRight_eq_div_pow]
    exact Nat.div_eq_of_lt h
  rw [advLane1, hlow, hhigh, BitVec.add_zero, mul1]

/-- Lane 1 after `SEED128` is 10007 times a byte (R41 corner case (b)). -/
theorem adv_byte_lane1 (b : Byte) (l2 : Word) : (adv (b.setWidth 32) l2).lane1 = 10007#32 * b.setWidth 32 :=
  advLane1_of_lt (by rw [BitVec.toNat_setWidth]; omega)

/-! ### The raw lanes of an identifier (R41) -/

theorem allZero_iff (b : Vector Byte 16) : allZero b = true ↔ ∀ (k : Nat) (_ : k < 16), b[k] = 0#8 := by
  simp only [allZero, List.all_eq_true, Vector.mem_toList_iff, decide_eq_true_iff, Vector.forall_mem_iff_forall_getElem]
  rfl

/-- The test of `InvalidSeed`, on the bits of the identifier. -/
theorem allZero_identBytes_iff (ident : Data) :
    allZero (identBytes ident) = true ↔ ∀ k < 16, ident.extractLsb' (8 * k) 8 = 0#8 := by
  rw [allZero_iff]
  exact forall₂_congr fun k h => by rw [identBytes_get ident k h]

/-- The pair loop only ever ANDs into the second lane, so a lane that starts at zero ends at zero. -/
theorem mixPairs_zero_snd (bytes : List Byte) (r1 : Word) : (mixPairs bytes (r1, 0#32)).2 = 0#32 := by
  induction bytes using List.twoStepInduction generalizing r1 with
  | nil => rfl
  | singleton b => rfl
  | cons_cons even odd rest ih _ => rw [mixPairs, BitVec.zero_and]; exact ih _

/-- The pair loop gathers the XOR of the even-indexed bytes in the first lane. -/
theorem mixPairs_identBytes_fst (ident : Data) (r2 : Word) :
    (mixPairs (identBytes ident).toList (0#32, r2)).1 = (evenXor ident).setWidth 32 := by
  simp only [evenXor, BitVec.setWidth_xor, identBytes, leByte, Vector.toList_mk, mixPairs, BitVec.zero_xor]

theorem mixPairs_identBytes (ident : Data) :
    mixPairs (identBytes ident).toList (0, 0) = ((evenXor ident).setWidth 32, 0#32) :=
  Prod.ext (mixPairs_identBytes_fst ident 0#32) (mixPairs_zero_snd _ 0#32)

/-! ### The raw lanes of a 64-bit seed (R42) -/

/-- Two seeds that agree on a window of bits agree on every byte in it. -/
theorem byte_eq_of_window {v v' : Seed64} {start len k : Nat} (h : v.extractLsb' start len = v'.extractLsb' start len)
    (hlow : start ≤ k) (hhigh : k + 8 ≤ start + len) : v.extractLsb' k 8 = v'.extractLsb' k 8 := by
  ext i hi
  have hbit := congrArg (·.getLsbD (k - start + i)) h
  have hin : k - start + i < len := by omega
  have hpos : start + (k - start + i) = k + i := by omega
  simpa [hin, hpos] using hbit

/-- `TSEED` reads no bit of byte 5 (R42). -/
theorem tseed_ignores_byte5 {v v' : Seed64} (hlow : v.extractLsb' 0 40 = v'.extractLsb' 0 40)
    (hhigh : v.extractLsb' 48 16 = v'.extractLsb' 48 16) : tseed v = tseed v' := by
  have below (k : Nat) (hk : k + 8 ≤ 40) : v.extractLsb' k 8 = v'.extractLsb' k 8 :=
    byte_eq_of_window hlow k.zero_le (by omega)
  have above (k : Nat) (hk : 48 ≤ k) (hk' : k + 8 ≤ 64) : v.extractLsb' k 8 = v'.extractLsb' k 8 :=
    byte_eq_of_window hhigh hk hk'
  simp only [tseed, below 0, below 8, below 16, below 24, below 32, above 48, above 56, Nat.reduceAdd, Nat.reduceLeDiff]

/-- Byte 4 stands in both raw lanes of `TSEED` (R42). -/
theorem tseed_shares_byte4 (v : Seed64) : (tseed v).1.extractLsb' 0 8 = (tseed v).2.extractLsb' 16 8 :=
  calc (tseed v).1.extractLsb' 0 8 = v.extractLsb' 32 8 := BitVec.extractLsb'_append_eq_right
    _ = (tseed v).2.extractLsb' 16 8 := by
      rw [tseed, BitVec.extractLsb'_append_eq_of_le (by decide), BitVec.extractLsb'_append_eq_of_le (by decide),
        BitVec.extractLsb'_append_eq_right]

/-! ### The raw lanes of a 32-bit seed (R44) -/

theorem seedHalves_fst_toInt (v : Word) : (seedHalves v).1.toInt = (v.extractLsb' 0 16).toInt :=
  BitVec.toInt_signExtend_of_le (by decide)

theorem seedHalves_snd_toInt (v : Word) : (seedHalves v).2.toInt = (v.extractLsb' 16 16).toInt :=
  BitVec.toInt_signExtend_of_le (by decide)

theorem seedHalves_fst_of_zero_low {v : Word} (h : v.extractLsb' 0 16 = 0#16) : (seedHalves v).1 = 0#32 :=
  calc (seedHalves v).1 = (v.extractLsb' 0 16).signExtend 32 := rfl
    _ = 0#32 := by rw [h]; decide

/-! ### What each seed command leaves -/

/-- Seeding, with the values its one advancement gives (R40). -/
theorem State.seedFrom_of_lanes {raw : Word × Word} {l1 l2 : Word} (s : State) (h1 : (adv raw.1 raw.2).lane1 = l1)
    (h2 : (adv raw.1 raw.2).lane2 = l2) :
    s.seedFrom raw =
      { s.wipe with lane1 := l1, lane2 := l2, seeded := true, flight := some ⟨[], ⟨.ok, 0#32⟩⟩ } := by
  rw [State.seedFrom_eq, h1, h2]
  rfl

/-- The zero identifier raises `InvalidSeed` (R41). -/
theorem exec_seed128_of_zero {ident : Data} (s : State) (h : allZero (identBytes ident) = true) :
    exec (.seed128 ident) s = .next ((s.stageIdent ident).raise .invalidSeed) := by
  rw [exec, execSeed128, State.stageIdent_tbuf, if_pos h]

/-- What an error leaves of a staged identifier: nothing (R45). -/
theorem State.stageIdent_raise (ident : Data) (e : Status) (s : State) :
    (s.stageIdent ident).raise e = { s.wipe with flight := some ⟨[], ⟨e, 0#32⟩⟩ } := rfl

/-- What seeding leaves of a staged identifier: nothing (R45). -/
theorem State.stageIdent_seedFrom (ident : Data) (raw : Word × Word) (s : State) :
    (s.stageIdent ident).seedFrom raw = s.seedFrom raw := rfl

/-- Any other identifier seeds from the XOR of its even-indexed bytes and zero (R41). -/
theorem exec_seed128_of_ne_zero {ident : Data} (s : State) (h : ¬ allZero (identBytes ident) = true) :
    exec (.seed128 ident) s = .next (s.seedFrom ((evenXor ident).setWidth 32, 0#32)) := by
  rw [exec, execSeed128, State.stageIdent_tbuf, if_neg h, State.stageIdent_seedFrom, mixPairs_identBytes]

/-- `SEED64` seeds from `TSEED` of the seed, or of the tick when the seed is absent (R43). -/
theorem exec_seed64 (seed : Option Seed64) (s : State) :
    exec (.seed64 seed) s = .next (s.seedFrom (tseed (seed.getD s.pins.tick))) := rfl

/-- A 32-bit seed other than zero seeds from its halves (R44). -/
theorem exec_seed32_of_ne_zero {seed : Word} (s : State) (h : seed ≠ 0#32) :
    exec (.seed32 seed) s = .next (s.seedFrom (seedHalves seed)) := by
  rw [exec, execSeed32, if_neg h]

/-! ### How every command ends (R39, R93) -/

/-- The state is one that `State.respond` has just left: the command has ended. -/
def State.Ended (t : State) : Prop := ∃ (status : Status) (word : Word) (bytes : List Byte) (s : State),
  t = s.respond status word bytes

theorem State.respond_ended (c : Status) (w : Word) (bs : List Byte) (s : State) : (s.respond c w bs).Ended :=
  ⟨c, w, bs, s, rfl⟩

theorem State.raise_ended (e : Status) (s : State) : (s.raise e).Ended := s.respond_ended e 0 []

theorem State.seedFrom_ended (raw : Word × Word) (s : State) : (s.seedFrom raw).Ended := State.respond_ended _ _ _ _

theorem State.nextAnswer_ended (positiveOnly : Bool) (s : State) : (s.nextAnswer positiveOnly).Ended :=
  State.respond_ended _ _ _ _

theorem State.extract_ended (n : Nat) (s : State) : (s.extract n).Ended := State.respond_ended _ _ _ _

theorem State.genAnswer_ended (length : Int) (s : State) : (s.genAnswer length).Ended := by
  rw [State.genAnswer]
  split
  · exact s.extract_ended _
  · exact s.raise_ended _

/-- What passes the test of `seeded` ends if its answer does; what fails it ends with the error. -/
theorem whenSeeded_ends {go : State → State} (hgo : ∀ s, (go s).Ended) (s : State) :
    ∃ t, whenSeeded go s = .next t ∧ t.Ended := by
  cases h : s.seeded with
  | false => exact ⟨_, whenSeeded_of_unseeded go h, s.raise_ended _⟩
  | true => exact ⟨_, whenSeeded_of_seeded go h, hgo s⟩

/-- Every command ends, on every path, in `State.respond`. -/
theorem exec_ends (i : Instr) (s : State) : ∃ t, exec i s = .next t ∧ t.Ended := by
  cases i with
  | seed128 ident =>
    by_cases h : allZero (identBytes ident) = true
    · exact ⟨_, exec_seed128_of_zero s h, State.raise_ended _ _⟩
    · exact ⟨_, exec_seed128_of_ne_zero s h, s.seedFrom_ended _⟩
  | seed64 seed => exact ⟨_, exec_seed64 seed s, s.seedFrom_ended _⟩
  | seed32 seed =>
    by_cases h : seed = 0#32
    · rw [h, exec_seed32_zero]; exact ⟨_, exec_seed64 none s, s.seedFrom_ended _⟩
    · exact ⟨_, exec_seed32_of_ne_zero s h, s.seedFrom_ended _⟩
  | next positiveOnly => exact whenSeeded_ends (State.nextAnswer_ended positiveOnly) s
  | fill length => exact whenSeeded_ends (State.extract_ended length) s
  | gen length => exact whenSeeded_ends (State.genAnswer_ended length) s

/-- An accepted word ends as its command does, or with `IllegalCommand`. -/
theorem State.accept_ends (s : State) : ∃ t, s.accept = .next t ∧ t.Ended := by
  cases h : decode s.pins.cmdWord s.pins.cmdData with
  | ok i => rw [State.accept_of_decode h]; exact exec_ends i s
  | error e => exact ⟨_, State.accept_of_illegal h, s.raise_ended _⟩

theorem State.Ended.stagingZero {t : State} (h : t.Ended) : t.StagingZero := by
  obtain ⟨c, w, bs, s, rfl⟩ := h
  exact State.respond_stagingZero c w bs s

/-- The step that takes a reset leaves the staging registers zero (R88). -/
theorem step_of_rst_stagingZero {s : State} (h : s.pins.rst = true) : ∃ t, step s = .next t ∧ t.StagingZero :=
  ⟨_, step_of_moment (State.moment_of_rst h), by simp [State.StagingZero]⟩

end Sys2Proof.Machine

namespace Sys2Proof

open Machine

/-! ### The statements -/

/-- Settles O23: the two cases of the test of `InvalidSeed`, and the pair loop, which leaves a byte in lane 1 and zero
in lane 2. -/
theorem seed128SeedsOrRejects : Obligations.Seed128SeedsOrRejects := by
  unfold Obligations.Seed128SeedsOrRejects
  refine ⟨fun ident s => ⟨fun hzero => ?_, fun hnonzero => ?_, mixPairs_identBytes ident⟩,
    fun l1 => ⟨adv_zero_lane2 l1, adv_raw_of_zero_lane2 l1⟩, ?_, fun s => ?_⟩
  · rw [exec_seed128_of_zero s ((allZero_identBytes_iff ident).mpr hzero), State.stageIdent_raise]
  · obtain ⟨k, hk, hbyte⟩ := hnonzero
    rw [exec_seed128_of_ne_zero s fun hall => hbyte ((allZero_identBytes_iff ident).mp hall k hk)]
    exact congrArg _ (State.seedFrom_of_lanes s (adv_byte_lane1 _ _) (adv_zero_lane2 _))
  · rw [adv_raw_of_zero_lane2, adv_zero_lane1]
  · rw [exec_seed128_of_ne_zero s (by decide)]
    exact congrArg _ (State.seedFrom_of_lanes s (by decide) (by decide))

/-- Settles O24: `permuteX` and `permuteY` pick the bytes by their index, so the buffers and the raw lanes are read off
the definitions; the two consequences are those of `tseed`. -/
theorem seedBytesArePermutedAsPrinted : Obligations.SeedBytesArePermutedAsPrinted := by
  unfold Obligations.SeedBytesArePermutedAsPrinted
  exact ⟨fun v s => ⟨rfl, rfl, s.rawLanes_staged v⟩, fun _ _ => tseed_ignores_byte5, tseed_shares_byte4⟩

/-- Settles O25: both forms seed from `TSEED`; the seeds 0 and 12345 by the values of their one advancement. -/
theorem seed64Seeds : Obligations.Seed64Seeds := by
  unfold Obligations.Seed64Seeds
  refine ⟨exec_seed64, fun s => ?_, fun v v' s hlow hhigh => ?_, by decide, fun s => ?_⟩
  · rw [exec_seed64, Option.getD_some]
    exact congrArg _ (State.seedFrom_of_lanes s (by decide) (by decide))
  · rw [exec_seed64, exec_seed64, Option.getD_some, Option.getD_some, tseed_ignores_byte5 hlow hhigh]
  · rw [exec_seed64, Option.getD_some]
    exact congrArg _ (State.seedFrom_of_lanes s (by decide) (by decide))

/-- Settles O26: seed 0 is `SEED64.T`; any other seeds from its sign-extended halves, which are the raw lanes asked
for. -/
theorem seed32Seeds : Obligations.Seed32Seeds := by
  unfold Obligations.Seed32Seeds
  refine ⟨exec_seed32_zero, fun seed s hseed => ?_, fun seed s hseed hlow => ?_, adv_zero_lane1, by decide,
    fun s => ⟨?_, ?_⟩⟩
  · exact ⟨_, _, seedHalves_fst_toInt seed, seedHalves_snd_toInt seed, exec_seed32_of_ne_zero s hseed⟩
  · refine ⟨_, exec_seed32_of_ne_zero s hseed, ?_⟩
    rw [State.seedFrom_eq, seedHalves_fst_of_zero_low hlow, adv_zero_lane1]
  · rw [exec_seed32_of_ne_zero s (by decide)]
    exact congrArg _ (State.seedFrom_of_lanes s (by decide) (by decide))
  · rw [exec_seed32_of_ne_zero s (by decide)]
    exact congrArg _ (State.seedFrom_of_lanes s (by decide) (by decide))

/-- Settles O42: every command and every illegal word ends in `State.respond`, which wipes; reset wipes too. -/
theorem stagingWipedOnEveryExit : Obligations.StagingWipedOnEveryExit := by
  unfold Obligations.StagingWipedOnEveryExit
  refine ⟨fun i s => ?_, fun s => ?_, fun s => step_of_rst_stagingZero⟩
  · obtain ⟨t, ht, hend⟩ := exec_ends i s
    exact ⟨t, ht, hend.stagingZero⟩
  · obtain ⟨t, ht, hend⟩ := s.accept_ends
    exact ⟨t, ht, hend.stagingZero⟩

end Sys2Proof
end

section
/-!
PROOFS of the statements of spec/41_advance.md: lane 1 as an exact sum of integers, lane 2 as a product of its low half
and its period, the absolute value, and what `NEXT` leaves.
-/

namespace Sys2Proof.Machine

/-! ### The two lanes apart (R50, R56) -/

/-- Lane 1 is updated from lane 1 alone. -/
theorem adv_lane1 (l1 l2 : Word) : (adv l1 l2).lane1 = advLane1 l1 := rfl

/-- Lane 2 is updated from lane 2 alone. -/
theorem adv_lane2 (l1 l2 : Word) : (adv l1 l2).lane2 = advLane2 l2 := rfl

/-! ### The halves of a lane as numbers -/

theorem lowHalf_toNat (l : Word) : (l.extractLsb' 0 16).toNat = l.toNat % 2 ^ 16 := by
  rw [BitVec.extractLsb'_toNat, Nat.shiftRight_zero]

/-- The mask leaves the low half, as a non-negative integer (R51). -/
theorem and_halfMask_toInt (l : Word) : (l &&& halfMask).toInt = (l.extractLsb' 0 16).toNat := by
  rw [BitVec.toInt_eq_toNat_of_lt (by rw [and_halfMask_toNat]; omega), and_halfMask_toNat, lowHalf_toNat]

/-- The arithmetic shift leaves the high half, as a signed integer (R51). -/
theorem sshiftRight_toInt (l : Word) : (l.sshiftRight shiftDistance).toInt = (l.extractLsb' 16 16).toInt := by
  have hl := l.isLt
  rw [BitVec.toInt_sshiftRight, BitVec.toInt_extractLsb', shiftDistance, Int.shiftRight_eq_div_pow,
    Nat.shiftRight_eq_div_pow, BitVec.toInt_eq_toNat_bmod, Int.bmod_def, Int.bmod_def]
  omega

/-! ### Lane 1 (R51) -/

/-- The range of R51, in the halves of the old lane: 10007 times an unsigned half plus a signed one. -/
theorem lane1Sum_range (low high : BitVec 16) :
    -32768 ≤ 10007 * (low.toNat : Int) + high.toInt ∧ 10007 * (low.toNat : Int) + high.toInt ≤ 655841512 := by
  have hlow := low.isLt
  have hmin : -2 ^ 15 ≤ high.toInt := high.le_toInt
  have hmax : high.toInt ≤ 2 ^ 15 - 1 := high.toInt_le
  omega

/-- Neither the product nor the sum of the lane 1 update leaves the signed range, so the update is exact. -/
theorem advLane1_toInt (l : Word) :
    (advLane1 l).toInt = 10007 * (l.extractLsb' 0 16).toNat + (l.extractLsb' 16 16).toInt := by
  obtain ⟨hmin, hmax⟩ := lane1Sum_range (l.extractLsb' 0 16) (l.extractLsb' 16 16)
  have hlow := (l.extractLsb' 0 16).isLt
  have hmul : mul1.toInt = 10007 := by decide
  rw [advLane1, BitVec.toInt_add, BitVec.toInt_mul, and_halfMask_toInt, sshiftRight_toInt, hmul,
    Int.bmod_eq_of_le (n := 10007 * _) (by omega) (by omega), Int.bmod_eq_of_le (by omega) (by omega)]

/-! ### Lane 2 (R52) -/

/-- The product, the shift and the sum of the lane 2 update are one product modulo 2^32, `110237 = 44701 + 2^16`. -/
theorem advLane2_toNat (l : Word) : (advLane2 l).toNat = 110237 * (l.toNat % 2 ^ 16) % 2 ^ 32 := by
  have hmul : mul2.toNat = 44701 := by decide
  rw [advLane2, BitVec.toNat_add, BitVec.toNat_mul, BitVec.toNat_shiftLeft, and_halfMask_toNat, hmul,
    shiftDistance, Nat.shiftLeft_eq]
  omega

/-- The new low half is the old one times 44701 modulo 2^16. -/
theorem advLane2_lowHalf (l : Word) :
    ((advLane2 l).extractLsb' 0 16).toNat = 44701 * (l.extractLsb' 0 16).toNat % 2 ^ 16 := by
  rw [lowHalf_toNat, lowHalf_toNat, advLane2_toNat]
  omega

/-- 44701 is odd, so no low half but zero is carried to zero. -/
theorem advLane2_lowHalf_eq_zero_iff (l : Word) :
    (advLane2 l).extractLsb' 0 16 = 0#16 ↔ l.extractLsb' 0 16 = 0#16 := by
  have hlt := (l.extractLsb' 0 16).isLt
  rw [← BitVec.toNat_inj, ← BitVec.toNat_inj, advLane2_lowHalf, BitVec.toNat_zero]
  constructor
  · intro hzero
    have hdvd : 2 ^ 16 ∣ (l.extractLsb' 0 16).toNat :=
      Nat.Coprime.dvd_of_dvd_mul_left (by decide) (Nat.dvd_of_mod_eq_zero hzero)
    exact Nat.eq_zero_of_dvd_of_lt hdvd hlt
  · intro hzero
    rw [hzero, Nat.mul_zero, Nat.zero_mod]

theorem advLane2_of_lowHalf_zero {l : Word} (h : l.extractLsb' 0 16 = 0#16) : advLane2 l = 0#32 := by
  apply BitVec.eq_of_toNat_eq
  rw [advLane2_toNat, ← lowHalf_toNat, h]
  rfl

/-! ### The period of lane 2 (R52): its low half as an element of `ZMod (2 ^ 16)` -/

/-- An advancement multiplies the low half by 44701. -/
theorem advLane2_cast (l : Word) : ((advLane2 l).toNat : ZMod (2 ^ 16)) = 44701 * (l.toNat : ZMod (2 ^ 16)) := by
  have hmod : (advLane2 l).toNat % 2 ^ 16 = 44701 * l.toNat % 2 ^ 16 := by
    rw [advLane2_toNat]
    omega
  exact_mod_cast (ZMod.natCast_eq_natCast_iff' _ _ _).mpr hmod

/-- The update reads nothing of lane 2 but its low half. -/
theorem advLane2_congr {l m : Word} (h : (l.toNat : ZMod (2 ^ 16)) = m.toNat) : advLane2 l = advLane2 m := by
  apply BitVec.eq_of_toNat_eq
  rw [advLane2_toNat, advLane2_toNat, (ZMod.natCast_eq_natCast_iff' _ _ _).mp h]

theorem lanesAfter_succ_snd (k : Nat) (l : Word × Word) :
    (lanesAfter (k + 1) l).2 = advLane2 (lanesAfter k l).2 := by
  rw [lanesAfter_add]
  rfl

/-- After `k` advancements the low half has been multiplied by the power `k` of 44701. -/
theorem lanesAfter_snd_cast (k : Nat) (l : Word × Word) :
    ((lanesAfter k l).2.toNat : ZMod (2 ^ 16)) = 44701 ^ k * (l.2.toNat : ZMod (2 ^ 16)) := by
  induction k with
  | zero => rw [lanesAfter_zero, pow_zero, one_mul]
  | succ k ih => rw [lanesAfter_succ_snd, advLane2_cast, ih, pow_succ' (44701 : ZMod (2 ^ 16)), mul_assoc]

/-- The power 2^14 of 44701 is 1 and the power 2^13 is not, so the order is 2^14. -/
theorem orderOf_44701 : orderOf (44701 : ZMod (2 ^ 16)) = 16384 := by
  have hhalf : (44701 : ZMod (2 ^ 16)) ^ 2 ^ 13 = 32769 := by reduce_mod_char
  have hnot : ¬ (44701 : ZMod (2 ^ 16)) ^ 2 ^ 13 = 1 := by rw [hhalf]; decide
  have hfin : (44701 : ZMod (2 ^ 16)) ^ 2 ^ (13 + 1) = 1 := by reduce_mod_char
  have := Fact.mk Nat.prime_two
  exact orderOf_eq_prime_pow hnot hfin

/-- The low half of lane 2 returns after 16384 advancements, and with it the lane of the advancement after. -/
theorem lanesAfter_snd_period (k : Nat) (l : Word × Word) :
    (lanesAfter (k + 1 + 16384) l).2 = (lanesAfter (k + 1) l).2 := by
  have hone : (44701 : ZMod (2 ^ 16)) ^ 16384 = 1 := orderOf_44701 ▸ pow_orderOf_eq_one _
  rw [Nat.add_right_comm, lanesAfter_succ_snd (k + 16384), lanesAfter_succ_snd k]
  apply advLane2_congr
  rw [lanesAfter_snd_cast, lanesAfter_snd_cast, pow_add, hone, mul_one]

/-! ### The absolute value (R53) -/

/-- `ABS32` is the library's absolute value of a bit vector. -/
theorem abs32_eq_abs (v : Word) : abs32 v = v.abs := by
  rw [abs32, BitVec.abs_eq, BitVec.msb_eq_getLsbD_last]

theorem abs32_of_nonneg {v : Word} (h : v.getLsbD 31 = false) : abs32 v = v := by
  rw [abs32, h, if_neg Bool.false_ne_true]

theorem abs32_of_neg {v : Word} (h : v.getLsbD 31 = true) : abs32 v = -v := by
  rw [abs32, if_pos h]

theorem abs32_toInt {v : Word} (h : v ≠ 0x80000000#32) : (abs32 v).toInt = |v.toInt| := by
  rw [abs32_eq_abs, BitVec.toInt_abs_eq_natAbs_of_ne_intMin h, Int.natCast_natAbs]

/-- The minimum is the only value whose absolute value has bit 31 set (R54). -/
theorem abs32_bit31_iff (v : Word) : (abs32 v).getLsbD 31 = true ↔ v = 0x80000000#32 := by
  have hbit : (abs32 v).getLsbD 31 = (abs32 v).msb := (BitVec.msb_eq_getLsbD_last _).symm
  rw [hbit, abs32_eq_abs, BitVec.msb_abs, Bool.and_eq_true, decide_eq_true_iff]
  exact and_iff_left rfl

/-! ### `NEXT` (R54) -/

/-- Everything `NEXT` does on a seeded block, given what its one advancement gives. -/
theorem exec_next_of_seeded (positiveOnly : Bool) {s : State} {a : Advanced} (h : s.seeded = true)
    (hadv : adv s.lane1 s.lane2 = a) :
    exec (.next positiveOnly) s = .next
      { s.wipe with
        lane1 := a.lane1
        lane2 := a.lane2
        flight := some ⟨[], ⟨.ok, nextWord positiveOnly a.raw⟩⟩ } := by
  subst hadv
  exact whenSeeded_of_seeded (State.nextAnswer positiveOnly) h

/-- On an unseeded block `NEXT` ends with `NotSeeded` (R73). -/
theorem exec_next_of_unseeded (positiveOnly : Bool) {s : State} (h : s.seeded = false) :
    exec (.next positiveOnly) s = .next (s.raise .notSeeded) := whenSeeded_of_unseeded _ h

/-- The seed of R54 whose first raw word is the minimum: its lanes are those of V-NEXT-5. -/
theorem exec_seed64_reaching_minimum (s : State) :
    ∃ t, exec (.seed64 (some 0x0271005D0062005A#64)) s = .next t ∧
      t.seeded = true ∧ t.lane1 = 0x114FBCB5#32 ∧ t.lane2 = 0x00035D3A#32 := by
  refine ⟨_, exec_seed64 _ s, ?_⟩
  simp only [State.seedFrom_eq, Option.getD_some]
  decide

end Sys2Proof.Machine

namespace Sys2Proof

open Machine

/-! ### The statements -/

/-- Settles O18: both equations are the definitions of `adv` and `State.advance`. -/
theorem advancementOfTheLanes : Obligations.AdvancementOfTheLanes := by
  unfold Obligations.AdvancementOfTheLanes
  exact ⟨fun _ _ => rfl, fun _ => ⟨rfl, rfl⟩⟩

/-- Settles O19: the update is exact on integers, and the range is that of the sum; the corner cases evaluate. -/
theorem lane1IsAnExactSum : Obligations.Lane1IsAnExactSum := by
  unfold Obligations.Lane1IsAnExactSum
  simp only [adv_lane1]
  refine ⟨fun l1 _ => ⟨rfl, advLane1_toInt l1, ?_⟩, fun _ => by decide⟩
  rw [advLane1_toInt]
  exact lane1Sum_range _ _

/-- Settles O20: the update as one product of the low half, and the low half as a geometric sequence modulo 2^16; the
examples evaluate. -/
theorem lane2IsAProductOfItsLowHalf : Obligations.Lane2IsAProductOfItsLowHalf := by
  unfold Obligations.Lane2IsAProductOfItsLowHalf
  simp only [adv_lane2]
  refine ⟨fun _ l2 => ⟨rfl, ?_, ?_, advLane2_lowHalf l2, advLane2_lowHalf_eq_zero_iff l2, advLane2_of_lowHalf_zero⟩,
    orderOf_44701, lanesAfter_snd_period, fun _ => by decide⟩
  · rw [lowHalf_toNat, advLane2_toNat]
  · omega

/-- Settles O21: the two branches of `abs32`, its value through the library's absolute value; the examples evaluate. -/
theorem absoluteValue : Obligations.AbsoluteValue := by
  unfold Obligations.AbsoluteValue
  refine ⟨fun v => ⟨abs32_of_nonneg, fun hneg => ?_, fun hmin => ⟨abs32_toInt hmin, ?_⟩⟩, by decide⟩
  · rw [abs32_of_neg hneg, BitVec.toNat_neg]
  · exact Bool.eq_false_iff.mpr fun hbit => hmin ((abs32_bit31_iff v).mp hbit)

/-- Settles O22: the two answers to the test of `seeded`; the corner cases are the first of them, with the values of
their one advancement. -/
theorem nextReturnsTheWord : Obligations.NextReturnsTheWord := by
  unfold Obligations.NextReturnsTheWord
  refine ⟨fun positiveOnly s => ⟨fun hseeded => exec_next_of_seeded positiveOnly hseeded rfl,
    exec_next_of_unseeded positiveOnly⟩, abs32_bit31_iff, fun s => ?_, fun positiveOnly s hseeded h1 h2 => ?_,
    fun s hseeded h1 h2 => ?_⟩
  · obtain ⟨t, hseed, hseeded, h1, h2⟩ := exec_seed64_reaching_minimum s
    have hadv : adv t.lane1 t.lane2 = ⟨0x1CD09892#32, 0x9CD09892#32, 0x80000000#32⟩ := by rw [h1, h2]; decide
    exact ⟨t, _, hseed, exec_next_of_seeded true hseeded hadv, rfl⟩
  · have hadv : adv s.lane1 s.lane2 = ⟨0#32, 0#32, 0#32⟩ := by rw [h1, h2]; decide
    have hword : nextWord positiveOnly 0#32 = 0#32 := by cases positiveOnly <;> rfl
    exact ⟨_, exec_next_of_seeded positiveOnly hseeded hadv, by rw [hword]⟩
  · have hadv : adv s.lane1 s.lane2 = ⟨0x0008B41F#32, 0xBC64B000#32, 0xBC6C041F#32⟩ := by rw [h1, h2]; decide
    exact ⟨_, _, exec_next_of_seeded false hseeded hadv, exec_next_of_seeded true hseeded hadv,
      rfl, rfl, rfl, rfl, rfl, rfl⟩

end Sys2Proof
end

section
/-!
PROOFS of the statements of spec/42_extract.md: the extraction loop follows the stream of its starting lanes, so
`EXTRACT(n)` leaves a state written out in full; `FILL` and `GEN` in range are `EXTRACT`; and the same stream in words,
as `NEXT` gives it.
-/

namespace Sys2Proof.Machine

/-! ### Lanes and words drawn, index by index (R50, R60) -/

theorem lanesAfter_succ (k : Nat) (l : Word × Word) :
    lanesAfter (k + 1) l =
      ((adv (lanesAfter k l).1 (lanesAfter k l).2).lane1, (adv (lanesAfter k l).1 (lanesAfter k l).2).lane2) :=
  lanesAfter_add k 1 l

/-- An index that starts a group has had one word for each group before its own. -/
theorem wordsFor_of_dvd {i : Nat} (h : i % 4 = 0) : wordsFor i = i / 4 := by
  rw [wordsFor]; omega

/-- An index inside a group has had the word of its own group too. -/
theorem wordsFor_of_not_dvd {i : Nat} (h : i % 4 ≠ 0) : wordsFor i = i / 4 + 1 := by
  rw [wordsFor]; omega

/-- Once byte `i` is emitted, the words of the groups up to its own have been drawn. -/
theorem wordsFor_succ (i : Nat) : wordsFor (i + 1) = i / 4 + 1 := by
  rw [wordsFor]; omega

/-! ### The loop of `EXTRACT` follows the stream (R60) -/

/-- The state holds what the loop needs before index `i` of the stream of lanes `l`: the lanes have advanced once for
every word the indices below `i` take, and inside a group `wbuf` holds the word of that group. -/
def State.OnStream (l : Word × Word) (i : Nat) (s : State) : Prop :=
  (s.lane1, s.lane2) = lanesAfter (wordsFor i) l ∧ (i % 4 ≠ 0 → s.wbuf = leBytes4 (drawnWord (i / 4) l))

theorem State.onStream_zero (s : State) : s.OnStream (s.lane1, s.lane2) 0 :=
  ⟨rfl, fun h => absurd rfl h⟩

/-- At index `i`, drawn now or kept from before, `wbuf` holds word `i / 4` and the lanes have advanced past it. -/
theorem State.OnStream.atIndex_word {l : Word × Word} {i : Nat} {s : State} (h : s.OnStream l i) :
    ((s.atIndex i).lane1, (s.atIndex i).lane2) = lanesAfter (i / 4 + 1) l ∧
      (s.atIndex i).wbuf = leBytes4 (drawnWord (i / 4) l) := by
  obtain ⟨hlanes, hwbuf⟩ := h
  by_cases hi : i % 4 = 0
  · rw [wordsFor_of_dvd hi] at hlanes
    rw [State.atIndex_of_dvd s hi, lanesAfter_succ, drawnWord, ← hlanes]
    exact ⟨rfl, rfl⟩
  · rw [wordsFor_of_not_dvd hi] at hlanes
    rw [State.atIndex_of_not_dvd s hi]
    exact ⟨hlanes, hwbuf hi⟩

/-- The byte emitted at index `i` is byte `i` of the stream. -/
theorem State.OnStream.wbufByte_eq {l : Word × Word} {i : Nat} {s : State} (h : s.OnStream l i) :
    (s.atIndex i).wbufByte i = streamByte l i := by
  simp only [State.wbufByte, h.atIndex_word.2, leBytes4_get, streamByte]

/-- One index of the loop keeps the state on the stream. -/
theorem State.OnStream.atIndex_onStream {l : Word × Word} {i : Nat} {s : State} (h : s.OnStream l i) :
    (s.atIndex i).OnStream l (i + 1) := by
  obtain ⟨hlanes, hwbuf⟩ := h.atIndex_word
  refine ⟨by rw [hlanes, wordsFor_succ], fun hi => ?_⟩
  have hgroup : (i + 1) / 4 = i / 4 := by omega
  rw [hwbuf, hgroup]

/-- The loop from index `i` emits the next `k` bytes of the stream and stays on it. -/
theorem State.OnStream.extractFrom_stream {l : Word × Word} (k : Nat) {i : Nat} {s : State} (h : s.OnStream l i) :
    (extractFrom k i s).1.OnStream l (i + k) ∧ (extractFrom k i s).2 = (List.range' i k).map (streamByte l) := by
  induction k generalizing i s with
  | zero => exact ⟨h, rfl⟩
  | succ k ih =>
    obtain ⟨hstate, hbytes⟩ := ih h.atIndex_onStream
    rw [extractFrom, hbytes, h.wbufByte_eq, List.range'_succ, List.map_cons, ← Nat.add_assoc, Nat.add_right_comm]
    exact ⟨hstate, rfl⟩

/-! ### `EXTRACT`, whole (R60, R66) -/

/-- Everything `EXTRACT(n)` and its response do. -/
theorem State.extract_eq (n : Nat) (s : State) :
    s.extract n =
      { s.wipe with
        lane1 := (lanesAfter (wordsFor n) (s.lane1, s.lane2)).1
        lane2 := (lanesAfter (wordsFor n) (s.lane1, s.lane2)).2
        flight := some ⟨(List.range n).map (streamByte (s.lane1, s.lane2)), ⟨.ok, 0#32⟩⟩ } := by
  obtain ⟨⟨hlanes, -⟩, hbytes⟩ := s.onStream_zero.extractFrom_stream n
  obtain ⟨l1, l2, w, hframe⟩ := extractFrom_frame n 0 s
  rw [Nat.zero_add, hframe] at hlanes
  rw [State.extract, hbytes, hframe, ← hlanes, List.range_eq_range']
  rfl

theorem State.extract_flight (n : Nat) (s : State) :
    (s.extract n).flight = some ⟨(List.range n).map (streamByte (s.lane1, s.lane2)), ⟨.ok, 0#32⟩⟩ := by
  rw [State.extract_eq]

theorem State.extract_lanes (n : Nat) (s : State) :
    ((s.extract n).lane1, (s.extract n).lane2) = lanesAfter (wordsFor n) (s.lane1, s.lane2) := by
  rw [State.extract_eq]

theorem State.extract_seeded (n : Nat) (s : State) : (s.extract n).seeded = s.seeded := by
  rw [State.extract_eq]; rfl

/-! ### `FILL` and `GEN` (R61, R62) -/

theorem exec_fill_of_seeded (n : Nat) {s : State} (h : s.seeded = true) :
    exec (.fill n) s = .next (s.extract n) := whenSeeded_of_seeded _ h

theorem exec_fill_of_unseeded (n : Nat) {s : State} (h : s.seeded = false) :
    exec (.fill n) s = .next (s.raise .notSeeded) := whenSeeded_of_unseeded _ h

theorem exec_gen_of_unseeded (n : Int) {s : State} (h : s.seeded = false) :
    exec (.gen n) s = .next (s.raise .notSeeded) := whenSeeded_of_unseeded _ h

/-- A length outside [1, 32767] is answered before anything is drawn (R62). -/
theorem exec_gen_out_of_range {n : Int} {s : State} (h : s.seeded = true) (hn : n < 1 ∨ 32767 < n) :
    exec (.gen n) s = .next (s.raise .outOfRange) := by
  have hrange : ¬ genInRange n = true := by rw [genInRange_iff]; omega
  have hgo : s.genAnswer n = s.raise .outOfRange := by rw [State.genAnswer, if_neg hrange]
  rw [← hgo]
  exact whenSeeded_of_seeded _ h

/-- In its range `GEN` is `FILL` of the same length, seeded or not (R62). -/
theorem exec_gen_eq_fill {n : Nat} (s : State) (h1 : 1 ≤ n) (h2 : n ≤ 32767) :
    exec (.gen n) s = exec (.fill n) s := by
  have hrange : genInRange n = true := by rw [genInRange_iff]; omega
  have hgo : State.genAnswer n = State.extract n := by
    funext s
    rw [State.genAnswer, if_pos hrange, Int.toNat_natCast]
  exact congrArg (whenSeeded · s) hgo

/-- Every command that extracts `n` bytes does so by `EXTRACT(n)`. -/
theorem exec_of_extracts {i : Instr} {n : Nat} {s : State} (hi : Extracts i n) (h : s.seeded = true) :
    exec i s = .next (s.extract n) := by
  obtain rfl | ⟨rfl, h1, h2⟩ := hi
  · exact exec_fill_of_seeded n h
  · rw [exec_gen_eq_fill s h1 h2, exec_fill_of_seeded n h]

theorem extracts_gen_four : Extracts (.gen 4) 4 := .inr ⟨rfl, by decide, by decide⟩

/-! ### Two extracting commands in a row (R65) -/

/-- The second extraction streams from the lanes the first has left. -/
theorem State.extract_extract_flight (n m : Nat) (s : State) :
    ((s.extract n).extract m).flight =
      some ⟨(List.range m).map (streamByte (lanesAfter (wordsFor n) (s.lane1, s.lane2))), ⟨.ok, 0#32⟩⟩ := by
  rw [State.extract_flight, State.extract_lanes]

/-- Each extraction advances the lanes by the words of its own length. -/
theorem State.extract_extract_lanes (n m : Nat) (s : State) :
    (((s.extract n).extract m).lane1, ((s.extract n).extract m).lane2) =
      lanesAfter (wordsFor n + wordsFor m) (s.lane1, s.lane2) := by
  rw [State.extract_lanes, State.extract_lanes, lanesAfter_add]

theorem exec_of_extracts_after_extract {j : Instr} (n : Nat) {m : Nat} {s : State} (hj : Extracts j m)
    (h : s.seeded = true) : exec j (s.extract n) = .next ((s.extract n).extract m) :=
  exec_of_extracts hj ((s.extract_seeded n).trans h)

/-! ### The stream in words (R64) -/

/-- The first of `k + 1` `NEXT` commands returns the next word, and the others follow from the state it leaves. -/
theorem nextWords_succ (k : Nat) {s : State} (h : s.seeded = true) :
    nextWords (k + 1) s =
      (s.rawWord :: (nextWords k (s.nextAnswer false)).1, (nextWords k (s.nextAnswer false)).2) := by
  have hnext : exec (.next false) s = .next (s.nextAnswer false) := exec_next_of_seeded false h rfl
  rw [nextWords, hnext]
  rfl

/-- `k` `NEXT` commands return the first `k` words of the stream and leave the lanes advanced `k` times. -/
theorem nextWords_of_seeded (k : Nat) {s : State} (h : s.seeded = true) :
    (nextWords k s).1 = (List.range k).map (drawnWord · (s.lane1, s.lane2)) ∧
      ((nextWords k s).2.lane1, (nextWords k s).2.lane2) = lanesAfter k (s.lane1, s.lane2) := by
  induction k generalizing s with
  | zero => exact ⟨rfl, rfl⟩
  | succ k ih =>
    obtain ⟨hwords, hlanes⟩ := ih (s := s.nextAnswer false) h
    rw [nextWords_succ k h, hwords, List.range_succ_eq_map, List.map_cons, List.map_map]
    exact ⟨rfl, hlanes⟩

/-- Byte `r` of word `k` is byte `4k + r` of the stream. -/
theorem streamByte_of_word (l : Word × Word) (k : Nat) {r : Nat} (hr : r < 4) :
    streamByte l (4 * k + r) = leByte 32 (drawnWord k l) r := by
  have hdiv : (4 * k + r) / 4 = k := by omega
  have hmod : (4 * k + r) % 4 = r := by omega
  rw [streamByte, hdiv, hmod]

/-- The four bytes of word `k` are the stream's from index `4k` on. -/
theorem leBytes4_drawnWord (k : Nat) (l : Word × Word) :
    (leBytes4 (drawnWord k l)).toList = (List.range 4).map fun r => streamByte l (4 * k + r) :=
  calc (leBytes4 (drawnWord k l)).toList
    _ = (List.range 4).map (leByte 32 (drawnWord k l)) := rfl
    _ = (List.range 4).map fun r => streamByte l (4 * k + r) :=
      List.map_congr_left fun _ hr => (streamByte_of_word l k (List.mem_range.mp hr)).symm

/-- The first `k` words, byte by byte, are the first `4k` bytes of the stream. -/
theorem flatMap_leBytes4_drawnWord (k : Nat) (l : Word × Word) :
    (((List.range k).map (drawnWord · l)).flatMap fun w => (leBytes4 w).toList) =
      (List.range (4 * k)).map (streamByte l) := by
  induction k with
  | zero => rfl
  | succ k ih =>
    rw [List.range_succ, List.map_append, List.flatMap_append, ih, List.map_singleton, List.flatMap_singleton,
      leBytes4_drawnWord, Nat.mul_succ, List.range_add, List.map_append, List.map_map]
    rfl

/-- `n` bytes are cut from the words they take. -/
theorem take_bytes_of_words (n : Nat) (l : Word × Word) :
    (((List.range (wordsFor n)).map (drawnWord · l)).flatMap fun w => (leBytes4 w).toList).take n =
      (List.range n).map (streamByte l) := by
  have hle : n ≤ 4 * wordsFor n := by rw [wordsFor]; omega
  rw [flatMap_leBytes4_drawnWord, ← List.map_take, List.take_range, Nat.min_eq_left hle]

end Sys2Proof.Machine

namespace Sys2Proof

open Machine

/-! ### The statements -/

/-- Settles O28: a seeded `FILL` is `EXTRACT`, for which `State.extract_eq` has the whole next state. -/
theorem fillStreamsTheBytes : Obligations.FillStreamsTheBytes := by
  unfold Obligations.FillStreamsTheBytes
  refine ⟨fun n s => ⟨fun hseeded => ?_, exec_fill_of_unseeded n⟩, fun s hseeded => ?_, by decide,
    fun s hseeded h1 h2 => ?_⟩
  · rw [exec_fill_of_seeded n hseeded, State.extract_eq]
  · exact exec_fill_of_seeded 0 hseeded
  · rw [exec_fill_of_seeded 5 hseeded, State.extract_eq, h1, h2]
    rfl

/-- Settles O29: in its range `GEN` is `FILL`; outside it, and unseeded, it raises its error. -/
theorem genStreamsTheBytesInRange : Obligations.GenStreamsTheBytesInRange := by
  unfold Obligations.GenStreamsTheBytesInRange
  refine ⟨fun n s => ⟨fun hseeded h1 h2 => ?_, exec_gen_out_of_range, exec_gen_of_unseeded n⟩,
    fun n s => exec_gen_eq_fill s, by decide, by decide, fun s hseeded h1 h2 => ⟨?_, ?_⟩⟩
  · lift n to Nat using by omega
    rw [exec_gen_eq_fill s (by omega) (by omega), exec_fill_of_seeded n hseeded, State.extract_eq]
    rfl
  · rw [exec_of_extracts extracts_gen_four hseeded, State.extract_eq, h1, h2]
    rfl
  · exact exec_gen_out_of_range hseeded (.inl (by decide))

/-- Settles O30: `EXTRACT` and the `NEXT` commands walk the same stream, one in bytes and one in words. -/
theorem byteAndWordViewsAgree : Obligations.ByteAndWordViewsAgree := by
  unfold Obligations.ByteAndWordViewsAgree
  refine ⟨fun s hseeded => ?_, fun n s hseeded => ?_⟩
  · exact ⟨_, _, s.rawWord, exec_of_extracts extracts_gen_four hseeded, exec_next_of_seeded false hseeded rfl, rfl,
      s.extract_flight 4, rfl, rfl⟩
  · obtain ⟨hwords, hlanes⟩ := nextWords_of_seeded (wordsFor n) hseeded
    obtain ⟨hlane1, hlane2⟩ := Prod.mk.inj ((s.extract_lanes n).trans hlanes.symm)
    refine ⟨_, exec_fill_of_seeded n hseeded, ?_, hlane1, hlane2, fun h1 h2 => ?_⟩
    · rw [hwords, take_bytes_of_words, State.extract_flight]
    · exact exec_of_extracts (.inr ⟨rfl, h1, h2⟩) hseeded

/-- Settles O31: the second extraction reads only the lanes the first has left; lengths 2 and 2 against 4 are
the same facts at these lengths, where one word each is drawn. -/
theorem groupingRestartsInEveryCommand : Obligations.GroupingRestartsInEveryCommand := by
  unfold Obligations.GroupingRestartsInEveryCommand
  refine ⟨fun i j n m s hi hj hseeded => ?_, fun i j k s hi hj hk hseeded => ?_⟩
  · exact ⟨_, _, exec_of_extracts hi hseeded, exec_of_extracts_after_extract n hj hseeded, s.extract_flight n,
      s.extract_extract_flight n m, s.extract_extract_lanes n m⟩
  · exact ⟨_, _, _, _, _, rfl, rfl, exec_of_extracts hi hseeded, exec_of_extracts_after_extract 2 hj hseeded,
      exec_of_extracts hk hseeded, s.extract_flight 2, s.extract_extract_flight 2 2, s.extract_flight 4,
      s.extract_extract_lanes 2 2, s.extract_lanes 4⟩

end Sys2Proof
end

section
/-!
PROOFS of the statements of spec/60_exceptions.md: every command ends with the status `expectedStatus` gives it, and
an error is `State.raise` on the state the command was accepted in; the three statements are read off that one fact.
-/

namespace Sys2Proof.Machine

/-! ### The zero identifier (R41, R71) -/

/-- An identifier whose sixteen bytes are zero is zero: its bit `i` is bit `i mod 8` of byte `i div 8`. -/
theorem ident_eq_zero_iff_bytes (ident : Data) : ident = 0#128 ↔ ∀ k < 16, ident.extractLsb' (8 * k) 8 = 0#8 := by
  constructor
  · rintro rfl k -
    exact BitVec.extractLsb'_zero
  · intro hbytes
    ext i hi
    have hbit := congrArg (BitVec.getLsbD · (i % 8)) (hbytes (i / 8) (by omega))
    simpa [Nat.mod_lt, Nat.div_add_mod, hi] using hbit

theorem allZero_identBytes_iff_eq_zero (ident : Data) : allZero (identBytes ident) = true ↔ ident = 0#128 :=
  (allZero_identBytes_iff ident).trans (ident_eq_zero_iff_bytes ident).symm

/-! ### Ending with a status -/

/-- `t` is the end, with status `c`, of a command accepted in `s`; an error is raised on `s` itself (R77). -/
def State.EndsWith (c : Status) (s t : State) : Prop :=
  (∃ f, t.flight = some f ∧ f.response.status = c) ∧ (c ≠ .ok → t = s.raise c)

theorem State.raise_endsWith (c : Status) (s : State) : s.EndsWith c (s.raise c) :=
  ⟨⟨_, s.raise_flight c, rfl⟩, fun _ => rfl⟩

/-- A command that answers `OK` may have changed the state before it answered. -/
theorem State.respond_ok_endsWith (w : Word) (bs : List Byte) (s u : State) : s.EndsWith .ok (u.respond .ok w bs) :=
  ⟨⟨_, u.respond_flight .ok w bs, rfl⟩, fun h => absurd rfl h⟩

theorem State.seedFrom_endsWith (raw : Word × Word) (s : State) : s.EndsWith .ok (s.seedFrom raw) :=
  State.respond_ok_endsWith _ _ _ _

theorem State.nextAnswer_endsWith (positiveOnly : Bool) (s : State) : s.EndsWith .ok (s.nextAnswer positiveOnly) :=
  State.respond_ok_endsWith _ _ _ _

theorem State.extract_endsWith (n : Nat) (s : State) : s.EndsWith .ok (s.extract n) :=
  State.respond_ok_endsWith _ _ _ _

/-- On a seeded block the range test alone decides (R72). -/
theorem State.genAnswer_endsWith (n : Int) (s : State) :
    s.EndsWith (if 1 ≤ n ∧ n ≤ 32767 then .ok else .outOfRange) (s.genAnswer n) := by
  simp only [State.genAnswer, genInRange_iff]
  split
  · exact s.extract_endsWith _
  · exact s.raise_endsWith _

/-- The test of `seeded` comes first; a seeded block ends as the command itself does (R73, R76). -/
theorem whenSeeded_endsWith {go : State → State} {c : Status} {s : State} (hgo : s.EndsWith c (go s)) :
    ∃ t, whenSeeded go s = .next t ∧ s.EndsWith (if s.seeded then c else .notSeeded) t := by
  cases h : s.seeded with
  | false => exact ⟨_, whenSeeded_of_unseeded go h, s.raise_endsWith _⟩
  | true => exact ⟨_, whenSeeded_of_seeded go h, hgo⟩

/-- Every command ends with its expected status (R76). -/
theorem exec_endsWith (i : Instr) (s : State) :
    ∃ t, exec i s = .next t ∧ s.EndsWith (expectedStatus s.seeded i) t := by
  cases i with
  | seed128 ident =>
    rw [expectedStatus]
    split
    case isTrue hzero =>
      have hall := (allZero_identBytes_iff_eq_zero ident).mpr hzero
      exact ⟨_, exec_seed128_of_zero s hall, s.raise_endsWith .invalidSeed⟩
    case isFalse hzero =>
      have hall := mt (allZero_identBytes_iff_eq_zero ident).mp hzero
      exact ⟨_, exec_seed128_of_ne_zero s hall, s.seedFrom_endsWith _⟩
  | seed64 seed => exact ⟨_, exec_seed64 seed s, s.seedFrom_endsWith _⟩
  | seed32 seed =>
    by_cases h : seed = 0#32
    · rw [h, exec_seed32_zero]
      exact ⟨_, exec_seed64 none s, s.seedFrom_endsWith _⟩
    · exact ⟨_, exec_seed32_of_ne_zero s h, s.seedFrom_endsWith _⟩
  | next positiveOnly => exact whenSeeded_endsWith (s.nextAnswer_endsWith positiveOnly)
  | fill length => exact whenSeeded_endsWith (s.extract_endsWith length)
  | gen length => exact whenSeeded_endsWith (s.genAnswer_endsWith length)

/-- The status a command ends with, alone. -/
theorem exec_status (i : Instr) (s : State) :
    ∃ t f, exec i s = .next t ∧ t.flight = some f ∧ f.response.status = expectedStatus s.seeded i := by
  obtain ⟨t, ht, ⟨f, hf, hstatus⟩, -⟩ := exec_endsWith i s
  exact ⟨t, f, ht, hf, hstatus⟩

/-- A command expected to end with `OK` does. -/
theorem exec_ok {i : Instr} {s : State} (h : expectedStatus s.seeded i = .ok) :
    ∃ t f, exec i s = .next t ∧ t.flight = some f ∧ f.response.status = .ok :=
  h ▸ exec_status i s

/-! ### When each status is expected (R71 to R73): each branch of `expectedStatus` against the cause -/

theorem expectedStatus_eq_invalidSeed_iff (seeded : Bool) (i : Instr) :
    expectedStatus seeded i = .invalidSeed ↔ i = .seed128 0#128 := by
  fun_cases expectedStatus seeded i <;> simp [*]

theorem expectedStatus_eq_outOfRange_iff (seeded : Bool) (i : Instr) :
    expectedStatus seeded i = .outOfRange ↔ seeded = true ∧ ∃ n, i = .gen n ∧ (n < 1 ∨ 32767 < n) := by
  fun_cases expectedStatus seeded i <;> simp [*]
  case case10 n hrange => omega

theorem expectedStatus_eq_notSeeded_iff (seeded : Bool) (i : Instr) :
    expectedStatus seeded i = .notSeeded ↔ seeded = false ∧ isSeed i = false := by
  fun_cases expectedStatus seeded i <;> simp [isSeed, *]

theorem expectedStatus_ne_illegalCommand (seeded : Bool) (i : Instr) :
    expectedStatus seeded i ≠ .illegalCommand := by
  fun_cases expectedStatus seeded i <;> simp

end Sys2Proof.Machine

namespace Sys2Proof

open Machine

/-! ### The statements -/

/-- Settles O34: the status is the expected one, whose causes are read off its definition, and an error is
`State.raise`, which is the wipe and the response. -/
theorem errorsHaveTheirCauses : Obligations.ErrorsHaveTheirCauses := by
  unfold Obligations.ErrorsHaveTheirCauses
  intro i s
  obtain ⟨t, ht, ⟨f, hf, hstatus⟩, herror⟩ := exec_endsWith i s
  refine ⟨t, f, ht, hf, ?_⟩
  rw [hstatus]
  exact ⟨expectedStatus_eq_invalidSeed_iff s.seeded i, expectedStatus_eq_outOfRange_iff s.seeded i,
    expectedStatus_eq_notSeeded_iff s.seeded i, expectedStatus_ne_illegalCommand s.seeded i, herror⟩

/-- Settles O35: a word that decodes ends as its command does, any other with `IllegalCommand`. -/
theorem statusByPriority : Obligations.StatusByPriority := by
  unfold Obligations.StatusByPriority
  refine ⟨fun s => ?_, rfl, fun _ => rfl⟩
  cases h : decode s.pins.cmdWord s.pins.cmdData with
  | ok i =>
    rw [State.accept_of_decode h]
    exact exec_status i s
  | error e => exact ⟨_, _, State.accept_of_illegal h, s.raise_flight _, rfl⟩

/-- Settles O38: each of these commands is expected to end with `OK`. -/
theorem theseNeverFail : Obligations.TheseNeverFail := by
  unfold Obligations.TheseNeverFail
  intro s
  exact ⟨fun ident hident => exec_ok (if_neg hident), fun seed => exec_ok rfl, fun seed => exec_ok rfl,
    fun hseeded positiveOnly => exec_ok (if_pos hseeded), fun hseeded n => exec_ok (if_pos hseeded)⟩

end Sys2Proof
end

section
/-!
PROOFS of the statements of spec/30_encoding.md sections 3, 4 and 6 about decoding and encoding together: an operand put
on `CMD_DATA` is read back, and a command word is its three fields, so the word a command was decoded from is the one it
encodes to.
-/

namespace Sys2Proof

/-! ### Decoding what was encoded (R34, R37) -/

/-- An operand widened to `CMD_DATA` is read back from its low bits. -/
theorem extractLsb'_setWidth_data {n : Nat} (v : BitVec n) (h : n ≤ 128) : (v.setWidth 128).extractLsb' 0 n = v := by
  rw [BitVec.extractLsb'_setWidth_of_le (by omega), BitVec.extractLsb'_eq_self]

/-- Each word of the opcode map assembles its operand from `CMD_DATA` as the encoder put it there. -/
theorem decode_encode {i : Instr} (h : wellFormed i = true) : decode (encodeWord i) (encodeData i) = .ok i := by
  cases i with
  | seed128 ident =>
    show decode 0x00000001#32 ident = .ok (.seed128 ident)
    rfl
  | seed64 seed =>
    cases seed with
    | none => rfl
    | some v =>
      calc decode 0x00000002#32 (v.setWidth 128)
        _ = .ok (.seed64 (some ((v.setWidth 128).extractLsb' 0 64))) := rfl
        _ = .ok (.seed64 (some v)) := by rw [extractLsb'_setWidth_data v (by decide)]
  | seed32 v =>
    calc decode 0x00000003#32 (v.setWidth 128)
      _ = .ok (.seed32 ((v.setWidth 128).extractLsb' 0 32)) := rfl
      _ = .ok (.seed32 v) := by rw [extractLsb'_setWidth_data v (by decide)]
  | next positiveOnly => cases positiveOnly <;> rfl
  | fill n =>
    have hn : n < 2 ^ 32 := of_decide_eq_true h
    calc decode 0x00000005#32 ((BitVec.ofNat 32 n).setWidth 128)
      _ = .ok (.fill (((BitVec.ofNat 32 n).setWidth 128).extractLsb' 0 32).toNat) := rfl
      _ = .ok (.fill n) := by
        rw [extractLsb'_setWidth_data _ (by decide), BitVec.toNat_ofNat, Nat.mod_eq_of_lt hn]
  | gen n =>
    obtain ⟨hmin, hmax⟩ : -2 ^ 31 ≤ n ∧ n < 2 ^ 31 := by simpa [wellFormed, genLengthFits] using h
    calc decode 0x00000006#32 ((BitVec.ofInt 32 n).setWidth 128)
      _ = .ok (.gen (((BitVec.ofInt 32 n).setWidth 128).extractLsb' 0 32).toInt) := rfl
      _ = .ok (.gen n) := by
        rw [extractLsb'_setWidth_data _ (by decide), BitVec.toInt_ofInt_eq_self (by decide) hmin hmax]

/-! ### Encoding what was decoded (R31, R32) -/

/-- A command word is its three fields. -/
theorem word_eq_of_fields {w w' : Word} (hop : opField w = opField w') (hm : mField w = mField w')
    (hrsv : rsvField w = rsvField w') : w = w' := by
  have hop' := congrArg BitVec.toNat hop
  have hm' := congrArg (· = true) hm
  have hrsv' := congrArg BitVec.toNat hrsv
  simp only [opField_toNat, mField_eq_true_iff, rsvField_toNat, eq_iff_iff] at hop' hm' hrsv'
  apply BitVec.eq_of_toNat_eq
  omega

theorem rsvField_encodeWord (i : Instr) : rsvField (encodeWord i) = 0#23 := by
  fun_cases encodeWord i <;> rfl

/-- A command word carries its row's modifier bit (R33). -/
theorem mField_encodeWord (i : Instr) : mField (encodeWord i) = Laws.EncodedRow.modifier i := by
  cases i with
  | seed128 ident => exact (Laws.EncodedRow.seed128 ident).2
  | seed64 seed => exact (Laws.EncodedRow.seed64 seed).2
  | seed32 seed => exact (Laws.EncodedRow.seed32 seed).2
  | next positiveOnly => exact (Laws.EncodedRow.next positiveOnly).2
  | fill length => exact (Laws.EncodedRow.fill length).2
  | gen length => exact (Laws.EncodedRow.gen length).2

theorem noModifier_eq_ok_iff (m : Bool) (i j : Instr) : noModifier m i = .ok j ↔ m = false ∧ i = j := by
  cases m <;> simp [noModifier]

theorem genLengthFits_toInt (v : Word) : genLengthFits v.toInt = true := by
  rw [genLengthFits, Bool.and_eq_true, decide_eq_true_iff, decide_eq_true_iff]
  exact ⟨v.le_toInt, v.toInt_lt⟩

/-- A command has the `OP` and the `M` it was decoded from, and its length comes from 32 bits. -/
theorem fields_of_decodeOp {op : Byte} {m : Bool} {d : Data} {i : Instr} (h : decodeOp op m d = .ok i) :
    opField (encodeWord i) = op ∧ Laws.EncodedRow.modifier i = m ∧ wellFormed i = true := by
  revert h
  fun_cases decodeOp op m d <;> intro h
  case case1 =>
    subst op
    obtain ⟨rfl, rfl⟩ := (noModifier_eq_ok_iff m _ i).mp h
    exact ⟨rfl, rfl, rfl⟩
  case case2 =>
    subst op
    cases h
    cases m with
    | false => exact ⟨rfl, rfl, rfl⟩
    | true =>
      rw [if_pos rfl]
      exact ⟨rfl, rfl, rfl⟩
  case case3 =>
    subst op
    obtain ⟨rfl, rfl⟩ := (noModifier_eq_ok_iff m _ i).mp h
    exact ⟨rfl, rfl, rfl⟩
  case case4 =>
    subst op
    cases h
    cases m <;> exact ⟨rfl, rfl, rfl⟩
  case case5 =>
    subst op
    obtain ⟨rfl, rfl⟩ := (noModifier_eq_ok_iff m _ i).mp h
    exact ⟨rfl, rfl, decide_eq_true (d.extractLsb' 0 32).isLt⟩
  case case6 =>
    subst op
    obtain ⟨rfl, rfl⟩ := (noModifier_eq_ok_iff m _ i).mp h
    exact ⟨rfl, rfl, genLengthFits_toInt _⟩
  case case7 => cases h

/-- What the decoder gives is well-formed and encodes to the word it was decoded from. -/
theorem encodeWord_of_decode {w : Word} {d : Data} {i : Instr} (h : decode w d = .ok i) :
    wellFormed i = true ∧ encodeWord i = w := by
  rw [decode] at h
  split at h
  case isFalse => cases h
  case isTrue hrsv =>
    obtain ⟨hop, hm, hwf⟩ := fields_of_decodeOp h
    exact ⟨hwf, word_eq_of_fields hop ((mField_encodeWord i).trans hm) ((rsvField_encodeWord i).trans hrsv.symm)⟩

/-! ### The statements -/

/-- Settles O1: `decode_encode`, command by command. -/
theorem decodeOfEncode : Obligations.DecodeOfEncode := by
  unfold Obligations.DecodeOfEncode
  exact fun i => decode_encode

/-- Settles O2: the word is fixed by its fields, and the command, being well-formed, decodes from its own encoding. -/
theorem decodedCommandIsCanonical : Obligations.DecodedCommandIsCanonical := by
  unfold Obligations.DecodedCommandIsCanonical
  intro w d i h
  obtain ⟨hwf, rfl⟩ := encodeWord_of_decode h
  exact ⟨hwf, rfl, decode_encode hwf⟩

/-- Settles O4: a word that decodes is the encoder's word of some command, which is one of the eight; each of the eight
decodes whatever the operand. -/
theorem legalWordsAreTheEight : Obligations.LegalWordsAreTheEight := by
  unfold Obligations.LegalWordsAreTheEight
  intro w d
  constructor
  · rintro ⟨i, h⟩
    obtain ⟨-, rfl⟩ := encodeWord_of_decode h
    fun_cases encodeWord i <;> decide
  · intro h
    fin_cases h <;> exact ⟨_, rfl⟩

/-- Settles O6: the decoder evaluates on each of the twelve words. -/
theorem tabledWordsDecode : Obligations.TabledWordsDecode := by
  unfold Obligations.TabledWordsDecode
  decide

end Sys2Proof
end

section
/-!
PROOFS of the statements about what one command does: there are four answers to a command (`Answer`), each one update of
the state written out in full; `exec` gives the answer that `answerTo` names, and each statement is read off the four.
-/

namespace Sys2Proof.Machine

/-! ### The four answers -/

/-- The answer to an accepted command: an error, a seeding from raw lanes, the word of `NEXT`, or `n` bytes. -/
inductive Answer where
  | fail (error : Status) (isError : error ≠ .ok)
  | seed (raw : Word × Word)
  | word (positiveOnly : Bool)
  | bytes (n : Nat)

/-- The lanes an answer leaves, given the lanes it finds. -/
def Answer.lanes : Answer → Word × Word → Word × Word
  | .fail _ _, l => l
  | .seed raw, _ => lanesAfter 1 raw
  | .word _, l => lanesAfter 1 l
  | .bytes n, l => lanesAfter (wordsFor n) l

/-- What an answer owes the host. -/
def Answer.owed : Answer → Word × Word → Flight
  | .fail error _, _ => ⟨[], ⟨error, 0#32⟩⟩
  | .seed _, _ => ⟨[], ⟨.ok, 0#32⟩⟩
  | .word positiveOnly, l => ⟨[], ⟨.ok, nextWord positiveOnly (drawnWord 0 l)⟩⟩
  | .bytes n, l => ⟨(List.range n).map (streamByte l), ⟨.ok, 0#32⟩⟩

/-- Whether the answer seeds the block. -/
def Answer.seeds : Answer → Bool
  | .seed _ => true
  | .fail _ _ | .word _ | .bytes _ => false

/-- Whether the answer reads the lanes it finds. -/
def Answer.draws : Answer → Bool
  | .word _ | .bytes _ => true
  | .fail _ _ | .seed _ => false

/-- Everything an answer does to the state. -/
def State.answer (a : Answer) (s : State) : State :=
  { s.wipe with
    lane1 := (a.lanes (s.lane1, s.lane2)).1
    lane2 := (a.lanes (s.lane1, s.lane2)).2
    seeded := a.seeds || s.seeded
    flight := some (a.owed (s.lane1, s.lane2)) }

section

variable (a : Answer) (s : State)

@[simp] theorem State.answer_lane1 : (s.answer a).lane1 = (a.lanes (s.lane1, s.lane2)).1 := rfl
@[simp] theorem State.answer_lane2 : (s.answer a).lane2 = (a.lanes (s.lane1, s.lane2)).2 := rfl
@[simp] theorem State.answer_seeded : (s.answer a).seeded = (a.seeds || s.seeded) := rfl
@[simp] theorem State.answer_flight : (s.answer a).flight = some (a.owed (s.lane1, s.lane2)) := rfl
@[simp] theorem State.answer_pins : (s.answer a).pins = s.pins := rfl
@[simp] theorem State.answer_moves : (s.answer a).moves = s.moves := rfl
@[simp] theorem State.answer_received : (s.answer a).received = s.received := rfl
@[simp] theorem State.answer_resets : (s.answer a).resets = s.resets := rfl

theorem State.answer_stagingZero : (s.answer a).StagingZero := ⟨rfl, rfl, rfl, rfl⟩

/-- No answer reads the tick: it stands in the raw lanes already. -/
theorem State.answer_withTick (tick : Seed64) : (s.withTick tick).answer a = (s.answer a).withTick tick := rfl

end

/-! ### The model's operations are the four answers -/

theorem State.raise_eq_answer {e : Status} (he : e ≠ .ok) (s : State) : s.raise e = s.answer (.fail e he) := rfl

theorem State.seedFrom_eq_answer (raw : Word × Word) (s : State) : s.seedFrom raw = s.answer (.seed raw) := rfl

theorem State.nextAnswer_eq_answer (positiveOnly : Bool) (s : State) :
    s.nextAnswer positiveOnly = s.answer (.word positiveOnly) := rfl

theorem State.extract_eq_answer (n : Nat) (s : State) : s.extract n = s.answer (.bytes n) := s.extract_eq n

/-! ### Which answer a command gets -/

/-- The answer to a command, by the order of the tests (R76): of the state only `seeded` and the tick have a say. -/
def answerTo (seeded : Bool) (tick : Seed64) : Instr → Answer
  | .seed128 ident =>
    if ident = 0#128 then .fail .invalidSeed (by decide) else .seed ((evenXor ident).setWidth 32, 0#32)
  | .seed64 seed => .seed (tseed (seed.getD tick))
  | .seed32 seed => .seed (if seed = 0#32 then tseed tick else seedHalves seed)
  | .next positiveOnly => if seeded then .word positiveOnly else .fail .notSeeded (by decide)
  | .fill n => if seeded then .bytes n else .fail .notSeeded (by decide)
  | .gen n =>
    if seeded then (if 1 ≤ n ∧ n ≤ 32767 then .bytes n.toNat else .fail .outOfRange (by decide))
    else .fail .notSeeded (by decide)

/-- Everything a command does. -/
theorem exec_eq_answer (i : Instr) (s : State) : exec i s = .next (s.answer (answerTo s.seeded s.pins.tick i)) := by
  cases i with
  | seed128 ident =>
    by_cases h : ident = 0#128
    · rw [exec_seed128_of_zero s ((allZero_identBytes_iff_eq_zero ident).mpr h), answerTo, if_pos h]
      rfl
    · rw [exec_seed128_of_ne_zero s (mt (allZero_identBytes_iff_eq_zero ident).mp h), answerTo, if_neg h,
        State.seedFrom_eq_answer]
  | seed64 seed => rw [exec_seed64, answerTo, State.seedFrom_eq_answer]
  | seed32 seed =>
    by_cases h : seed = 0#32
    · rw [h, exec_seed32_zero, exec_seed64, answerTo, if_pos rfl, State.seedFrom_eq_answer, Option.getD_none]
    · rw [exec_seed32_of_ne_zero s h, answerTo, if_neg h, State.seedFrom_eq_answer]
  | next positiveOnly =>
    cases h : s.seeded with
    | false => exact exec_next_of_unseeded positiveOnly h
    | true => rw [exec, execNext, whenSeeded_of_seeded _ h, answerTo, if_pos rfl, State.nextAnswer_eq_answer]
  | fill n =>
    cases h : s.seeded with
    | false => exact exec_fill_of_unseeded n h
    | true => rw [exec_fill_of_seeded n h, answerTo, if_pos rfl, State.extract_eq_answer]
  | gen n =>
    cases h : s.seeded with
    | false => exact exec_gen_of_unseeded n h
    | true =>
      by_cases hn : 1 ≤ n ∧ n ≤ 32767
      · have hext : Extracts (.gen n) n.toNat := by
          rw [Extracts, Int.toNat_of_nonneg (by omega)]
          exact .inr ⟨rfl, by omega⟩
        rw [exec_of_extracts hext h, State.extract_eq_answer, answerTo, if_pos rfl, if_pos hn]
      · rw [exec_gen_out_of_range h (by omega), answerTo, if_pos rfl, if_neg hn, State.raise_eq_answer]

/-! ### When each answer is given -/

theorem answerTo_seeds_iff (seeded : Bool) (tick : Seed64) (i : Instr) :
    (answerTo seeded tick i).seeds = true ↔ isSeed i = true ∧ i ≠ .seed128 0#128 := by
  fun_cases answerTo seeded tick i <;> simp [Answer.seeds, isSeed, *]

/-- The output commands do not seed. -/
theorem answerTo_not_seeds {i : Instr} (h : isSeed i = false) (seeded : Bool) (tick : Seed64) :
    (answerTo seeded tick i).seeds = false := by
  rw [Bool.eq_false_iff, ne_eq, answerTo_seeds_iff, h]
  exact fun hseed => Bool.false_ne_true hseed.1

theorem answerTo_eq_word_iff (seeded : Bool) (tick : Seed64) (i : Instr) (positiveOnly : Bool) :
    answerTo seeded tick i = .word positiveOnly ↔ seeded = true ∧ i = .next positiveOnly := by
  fun_cases answerTo seeded tick i <;> simp [*]

theorem answerTo_eq_bytes_iff (seeded : Bool) (tick : Seed64) (i : Instr) (n : Nat) :
    answerTo seeded tick i = .bytes n ↔ seeded = true ∧ Extracts i n := by
  fun_cases answerTo seeded tick i <;> simp [Extracts, *]
  case case9 m hm => omega
  case case10 m hm => omega

/-- Only a seeded block draws. -/
theorem seeded_of_answerTo_draws {seeded : Bool} {tick : Seed64} {i : Instr}
    (h : (answerTo seeded tick i).draws = true) : seeded = true := by
  cases ha : answerTo seeded tick i with
  | fail e he => rw [ha] at h; cases h
  | seed raw => rw [ha] at h; cases h
  | word positiveOnly => exact ((answerTo_eq_word_iff seeded tick i positiveOnly).mp ha).1
  | bytes n => exact ((answerTo_eq_bytes_iff seeded tick i n).mp ha).1

/-- The tick is read by the two tick-using forms only (R16). -/
theorem answerTo_tick {i : Instr} (h : usesTick i = false) (seeded : Bool) (tick tick' : Seed64) :
    answerTo seeded tick i = answerTo seeded tick' i := by
  fun_cases usesTick i
  case case2 seed =>
    cases seed with
    | none => cases h
    | some v => rfl
  case case3 seed =>
    have hseed : seed ≠ 0#32 := of_decide_eq_false h
    simp only [answerTo, if_neg hseed]
  all_goals rfl

/-- Seeding does not depend on what the block was before (R40). -/
theorem answerTo_of_isSeed {i : Instr} (h : isSeed i = true) (seeded seeded' : Bool) (tick : Seed64) :
    answerTo seeded tick i = answerTo seeded' tick i := by
  fun_cases isSeed i
  case case1 | case2 | case3 => rfl
  case case4 | case5 | case6 => cases h

/-- The tick-using forms seed. -/
theorem answerTo_seeds_of_usesTick {i : Instr} (h : usesTick i = true) (seeded : Bool) (tick : Seed64) :
    (answerTo seeded tick i).seeds = true := by
  fun_cases usesTick i
  case case2 | case3 => rfl
  case case1 | case4 | case5 | case6 => cases h

/-! ### What the answers have in common -/

theorem Answer.eq_fail_of_status {a : Answer} {l : Word × Word} (h : (a.owed l).response.status ≠ .ok) :
    ∃ e he, a = .fail e he := by
  cases a with
  | fail e he => exact ⟨e, he, rfl⟩
  | seed raw => exact absurd rfl h
  | word positiveOnly => exact absurd rfl h
  | bytes n => exact absurd rfl h

/-- An answer that does not seed leaves the lanes advanced some number of times, or not at all. -/
theorem Answer.lanes_of_not_seeds {a : Answer} (h : a.seeds = false) (l : Word × Word) :
    ∃ k, a.lanes l = lanesAfter k l := by
  cases a with
  | fail e he => exact ⟨0, rfl⟩
  | seed raw => cases h
  | word positiveOnly => exact ⟨1, rfl⟩
  | bytes n => exact ⟨wordsFor n, rfl⟩

theorem lanesAfter_fst_of_zero {l : Word × Word} (h : l.1 = 0#32) (k : Nat) : (lanesAfter k l).1 = 0#32 := by
  induction k with
  | zero => exact h
  | succ k ih => rw [lanesAfter_succ, ih, adv_zero_lane1]

theorem lanesAfter_snd_of_zero {l : Word × Word} (h : l.2 = 0#32) (k : Nat) : (lanesAfter k l).2 = 0#32 := by
  induction k with
  | zero => exact h
  | succ k ih => rw [lanesAfter_succ, ih, adv_zero_lane2]

/-! ### Accepting a word -/

/-- The answer to the word on the command ports, `IllegalCommand` if it does not decode (R35). -/
def State.acceptAnswer (s : State) : Answer :=
  match decode s.pins.cmdWord s.pins.cmdData with
  | .ok i => answerTo s.seeded s.pins.tick i
  | .error _ => .fail .illegalCommand (by decide)

theorem State.acceptAnswer_of_decode {s : State} {i : Instr} (h : decode s.pins.cmdWord s.pins.cmdData = .ok i) :
    s.acceptAnswer = answerTo s.seeded s.pins.tick i := by
  rw [State.acceptAnswer, h]

theorem State.acceptAnswer_of_illegal {s : State} {e : Illegal} (h : decode s.pins.cmdWord s.pins.cmdData = .error e) :
    s.acceptAnswer = .fail .illegalCommand (by decide) := by
  rw [State.acceptAnswer, h]

/-- Everything an acceptance does. -/
theorem State.accept_eq_answer (s : State) : s.accept = .next (s.answer s.acceptAnswer) := by
  cases h : decode s.pins.cmdWord s.pins.cmdData with
  | ok i => rw [State.accept_of_decode h, State.acceptAnswer_of_decode h, exec_eq_answer]
  | error e => rw [State.accept_of_illegal h, State.acceptAnswer_of_illegal h, State.raise_eq_answer]

theorem State.acceptAnswer_congr {s t : State} (hseeded : s.seeded = t.seeded) (hpins : s.pins = t.pins) :
    s.acceptAnswer = t.acceptAnswer := by
  rw [State.acceptAnswer, State.acceptAnswer, hseeded, hpins]

theorem State.acceptAnswer_seeds_iff (s : State) :
    s.acceptAnswer.seeds = true ↔
      ∃ i, decode s.pins.cmdWord s.pins.cmdData = .ok i ∧ isSeed i = true ∧ i ≠ .seed128 0#128 := by
  cases h : decode s.pins.cmdWord s.pins.cmdData with
  | ok i => simp [State.acceptAnswer_of_decode h, answerTo_seeds_iff]
  | error e => simp [State.acceptAnswer_of_illegal h, Answer.seeds]

theorem State.seeded_of_acceptAnswer_draws {s : State} (h : s.acceptAnswer.draws = true) : s.seeded = true := by
  cases hd : decode s.pins.cmdWord s.pins.cmdData with
  | ok i => rw [State.acceptAnswer_of_decode hd] at h; exact seeded_of_answerTo_draws h
  | error e => rw [State.acceptAnswer_of_illegal hd] at h; cases h

/-- A command that fails at one tick fails so at every tick: the forms that read it do not fail (R77). -/
theorem State.acceptAnswer_withTick_of_fail {s : State} {e : Status} {he : e ≠ .ok} (h : s.acceptAnswer = .fail e he)
    (tick : Seed64) : (s.withTick tick).acceptAnswer = .fail e he := by
  cases hd : decode s.pins.cmdWord s.pins.cmdData with
  | ok i =>
    rw [State.acceptAnswer_of_decode hd] at h
    rw [State.acceptAnswer_of_decode (s := s.withTick tick) hd]
    cases htick : usesTick i with
    | false => exact (answerTo_tick htick _ _ _).trans h
    | true =>
      have hseeds := answerTo_seeds_of_usesTick htick s.seeded s.pins.tick
      rw [h] at hseeds
      cases hseeds
  | error e' =>
    rw [State.acceptAnswer_of_illegal hd] at h
    rw [State.acceptAnswer_of_illegal (s := s.withTick tick) hd, h]

end Sys2Proof.Machine

namespace Sys2Proof

open Machine

/-! ### The statements -/

/-- Settles O36: an error is the answer `fail`, which the tick does not change. -/
theorem errorsHaveNoEffect : Obligations.ErrorsHaveNoEffect := by
  unfold Obligations.ErrorsHaveNoEffect
  intro s t f tick haccept hflight herror
  rw [s.accept_eq_answer] at haccept
  cases haccept
  cases hflight
  obtain ⟨e, he, ha⟩ := Answer.eq_fail_of_status herror
  rw [State.accept_eq_answer, State.acceptAnswer_withTick_of_fail ha, ha]
  exact ⟨rfl, rfl⟩

/-- Settles O40: the four answers, each with the commands that get it. -/
theorem responseShape : Obligations.ResponseShape := by
  unfold Obligations.ResponseShape
  intro i s
  refine ⟨_, _, exec_eq_answer i s, rfl, ?_⟩
  cases ha : answerTo s.seeded s.pins.tick i with
  | fail e he => exact ⟨fun _ => rfl, fun hok => absurd hok he, fun hword => absurd rfl hword⟩
  | seed raw =>
    have hseed : isSeed i = true := ((answerTo_seeds_iff s.seeded s.pins.tick i).mp (by rw [ha]; rfl)).1
    refine ⟨fun _ => rfl, fun _ => ⟨?_, ?_, fun _ _ => rfl⟩, fun hword => absurd rfl hword⟩ <;>
      (rintro n rfl; cases hseed)
  | word positiveOnly =>
    obtain ⟨-, rfl⟩ := (answerTo_eq_word_iff _ _ i positiveOnly).mp ha
    exact ⟨fun _ => rfl, fun _ => ⟨nofun, nofun, fun _ _ => rfl⟩, fun _ => ⟨rfl, positiveOnly, rfl⟩⟩
  | bytes n =>
    obtain ⟨-, hext⟩ := (answerTo_eq_bytes_iff _ _ i n).mp ha
    have hlength : ((Answer.bytes n).owed (s.lane1, s.lane2)).bytes.length = n := by simp [Answer.owed]
    refine ⟨fun herror => absurd rfl herror, fun _ => ?_, fun hword => absurd rfl hword⟩
    obtain rfl | ⟨rfl, -, -⟩ := hext
    · exact ⟨fun m hm => by cases hm; exact hlength, nofun, fun hfill => absurd rfl (hfill n)⟩
    · exact ⟨nofun, fun m hm => by cases hm; rw [hlength], fun _ hgen => absurd rfl (hgen n)⟩

/-- Settles O41: no answer writes the host's fields; one that does not seed leaves the flag, and an error and zero bytes
leave the lanes. -/
theorem frameOfEveryCommand : Obligations.FrameOfEveryCommand := by
  unfold Obligations.FrameOfEveryCommand
  intro i s
  refine ⟨_, _, exec_eq_answer i s, rfl, rfl, rfl, rfl, rfl, fun hout => ?_, ?_⟩
  · rw [State.answer_seeded, answerTo_not_seeds hout, Bool.false_or]
  · rintro (herror | rfl)
    · obtain ⟨e, he, ha⟩ := Answer.eq_fail_of_status herror
      rw [ha]
      exact ⟨rfl, rfl, rfl⟩
    · rw [answerTo]
      split <;> exact ⟨rfl, rfl, rfl⟩

/-- Settles O49: the answer is the same for every tick, and giving it does not read the tick. -/
theorem tickReadByTickFormsOnly : Obligations.TickReadByTickFormsOnly := by
  unfold Obligations.TickReadByTickFormsOnly
  intro i s tick htick
  refine ⟨_, exec_eq_answer i s, ?_⟩
  rw [exec_eq_answer, State.answer_withTick, answerTo_tick htick _ _ s.pins.tick, State.withTick_seeded]

/-- Settles O50: an output command leaves the lanes advanced some number of times, and an advancement keeps a zero lane;
the word of `NEXT` is then lane 1 alone. -/
theorem zeroLanesStayZero : Obligations.ZeroLanesStayZero := by
  unfold Obligations.ZeroLanesStayZero
  intro i s hout
  obtain ⟨k, hk⟩ := Answer.lanes_of_not_seeds (answerTo_not_seeds hout s.seeded s.pins.tick) (s.lane1, s.lane2)
  refine ⟨_, exec_eq_answer i s, fun h1 => ?_, fun h2 => ?_, fun h2 hseeded hi => ?_⟩
  · rw [State.answer_lane1, hk, lanesAfter_fst_of_zero h1]
  · rw [State.answer_lane2, hk, lanesAfter_snd_of_zero h2]
  · have hword : answerTo s.seeded s.pins.tick i = .word false := (answerTo_eq_word_iff _ _ _ _).mpr ⟨hseeded, hi⟩
    have hraw : (adv s.lane1 s.lane2).raw = (adv s.lane1 s.lane2).lane1 := by rw [h2, adv_raw_of_zero_lane2]
    rw [hword]
    calc (s.answer (.word false)).flight = some ⟨[], ⟨.ok, (adv s.lane1 s.lane2).raw⟩⟩ := rfl
      _ = some ⟨[], ⟨.ok, (s.answer (.word false)).lane1⟩⟩ := by rw [hraw]; rfl

end Sys2Proof
end

section
/-!
PROOFS of the statements about one step: the seven things a moment of the ports can be (`Transition`), what a step makes of
each, and the invariant, the ports and the record read off the seven.
-/

namespace Sys2Proof.Machine

/-! ### What a moment can be (R30, R39, R85, R89) -/

/-- `Transition s t`: at this moment of its ports the block goes from `s` to `t`. -/
inductive Transition (s : State) : State → Prop
  | reset (hrst : s.pins.rst = true) : Transition s s.takeReset
  | takeByte {b : Byte} {bs : List Byte} {r : Response} (hrst : s.pins.rst = false)
      (hflight : s.flight = some ⟨b :: bs, r⟩) (hready : s.pins.outReady = true) :
      Transition s (s.takeByte b ⟨b :: bs, r⟩)
  | holdByte {b : Byte} {bs : List Byte} {r : Response} (hrst : s.pins.rst = false)
      (hflight : s.flight = some ⟨b :: bs, r⟩) (hready : s.pins.outReady = false) : Transition s s
  | takeResponse {r : Response} (hrst : s.pins.rst = false) (hflight : s.flight = some ⟨[], r⟩)
      (hready : s.pins.rspReady = true) : Transition s (s.takeResponse ⟨[], r⟩)
  | holdResponse {r : Response} (hrst : s.pins.rst = false) (hflight : s.flight = some ⟨[], r⟩)
      (hready : s.pins.rspReady = false) : Transition s s
  | accept (hoffered : s.Offered) : Transition s (s.answer s.acceptAnswer)
  | idle (hrst : s.pins.rst = false) (hflight : s.flight = none) (hvalid : s.pins.cmdValid = false) : Transition s s

/-- At every moment one of the seven happens. -/
theorem exists_transition (s : State) : ∃ t, Transition s t := by
  cases hrst : s.pins.rst with
  | true => exact ⟨_, .reset hrst⟩
  | false =>
    cases hflight : s.flight with
    | none =>
      cases hvalid : s.pins.cmdValid with
      | true => exact ⟨_, .accept ⟨hflight, hrst, hvalid⟩⟩
      | false => exact ⟨_, .idle hrst hflight hvalid⟩
    | some f =>
      obtain ⟨_ | ⟨b, bs⟩, r⟩ := f
      · cases hready : s.pins.rspReady with
        | true => exact ⟨_, .takeResponse hrst hflight hready⟩
        | false => exact ⟨_, .holdResponse hrst hflight hready⟩
      · cases hready : s.pins.outReady with
        | true => exact ⟨_, .takeByte hrst hflight hready⟩
        | false => exact ⟨_, .holdByte hrst hflight hready⟩

theorem Transition.moment_eq {s t : State} (h : Transition s t) : s.moment = .next t := by
  cases h with
  | reset hrst => exact State.moment_of_rst hrst
  | takeByte hrst hflight hready => simp [State.moment_of_busy hrst hflight, State.deliver, hready]
  | holdByte hrst hflight hready => simp [State.moment_of_busy hrst hflight, State.deliver, hready]
  | takeResponse hrst hflight hready => simp [State.moment_of_busy hrst hflight, State.deliver, hready]
  | holdResponse hrst hflight hready => simp [State.moment_of_busy hrst hflight, State.deliver, hready]
  | accept hoffered => rw [State.moment_of_offered hoffered, State.accept_eq_answer]
  | idle hrst hflight hvalid => exact State.moment_of_idle hrst hflight hvalid

/-- The step at a moment: the transition, and the host's ports moved on. -/
theorem Transition.step_eq {s t : State} (h : Transition s t) : step s = .next t.hostMoves :=
  step_of_moment h.moment_eq

theorem exists_transition_of_step {s t : State} (h : step s = .next t) : ∃ u, Transition s u ∧ t = u.hostMoves := by
  obtain ⟨u, hu⟩ := exists_transition s
  rw [hu.step_eq] at h
  cases h
  exact ⟨u, hu, rfl⟩

/-- The host's ports and moves after a step. -/
theorem State.hostMoves_eq (s : State) :
    s.hostMoves = { s with pins := s.moves.headD Inputs.quiet, moves := s.moves.tail } := by
  rw [State.hostMoves]
  split <;> rename_i h <;> rw [h] <;> rfl

/-- The step of a block in reset. -/
theorem step_of_rst {s : State} (hrst : s.pins.rst = true) :
    step s = .next { s.takeReset with pins := s.moves.headD Inputs.quiet, moves := s.moves.tail } := by
  rw [(Transition.reset hrst).step_eq, State.hostMoves_eq]
  rfl

/-- The step of a block that owes a byte: the byte is taken or held by the level of `OUT_READY`. -/
theorem step_of_byte {s : State} {b : Byte} {bs : List Byte} {r : Response} (hrst : s.pins.rst = false)
    (hflight : s.flight = some ⟨b :: bs, r⟩) :
    step s = .next { s with
      flight := some (if s.pins.outReady then ⟨bs, r⟩ else ⟨b :: bs, r⟩)
      received := if s.pins.outReady then s.received ++ [.byte b] else s.received
      pins := s.moves.headD Inputs.quiet
      moves := s.moves.tail } := by
  cases hready : s.pins.outReady with
  | true =>
    rw [(Transition.takeByte hrst hflight hready).step_eq, State.hostMoves_eq]
    rfl
  | false =>
    rw [(Transition.holdByte hrst hflight hready).step_eq, State.hostMoves_eq, hflight]
    rfl

/-- The step of a block that owes its response alone: it is taken or held by the level of `RSP_READY`. -/
theorem step_of_response {s : State} {r : Response} (hrst : s.pins.rst = false) (hflight : s.flight = some ⟨[], r⟩) :
    step s = .next { s with
      flight := if s.pins.rspReady then none else some ⟨[], r⟩
      received := if s.pins.rspReady then s.received ++ [.response r] else s.received
      pins := s.moves.headD Inputs.quiet
      moves := s.moves.tail } := by
  cases hready : s.pins.rspReady with
  | true =>
    rw [(Transition.takeResponse hrst hflight hready).step_eq, State.hostMoves_eq]
    rfl
  | false =>
    rw [(Transition.holdResponse hrst hflight hready).step_eq, State.hostMoves_eq, hflight]
    rfl

/-! ### The invariant -/

@[simp] theorem State.hostMoves_inv_iff (s : State) : s.hostMoves.Inv ↔ s.Inv := by
  simp [State.Inv, State.StagingZero, State.Shuffled]

theorem State.Shuffled.of_lanesAfter_succ {s : State} {k : Nat} {l : Word × Word}
    (h : (s.lane1, s.lane2) = lanesAfter (k + 1) l) : s.Shuffled := by
  rw [lanesAfter_succ] at h
  exact ⟨_, _, (Prod.mk.inj h).1, (Prod.mk.inj h).2⟩

/-- Every answer leaves a seeded block shuffled: it advances the lanes, or leaves them, or seeds (R12). -/
theorem State.answer_shuffled {s : State} (h : s.seeded = true → s.Shuffled) (a : Answer)
    (hseeded : (s.answer a).seeded = true) : (s.answer a).Shuffled := by
  cases hseeds : a.seeds with
  | true =>
    cases a with
    | seed raw => exact .of_lanesAfter_succ (k := 0) (l := raw) rfl
    | fail e he => cases hseeds
    | word positiveOnly => cases hseeds
    | bytes n => cases hseeds
  | false =>
    have hs : s.seeded = true := by rwa [State.answer_seeded, hseeds, Bool.false_or] at hseeded
    obtain ⟨k, hk⟩ := Answer.lanes_of_not_seeds hseeds (s.lane1, s.lane2)
    cases k with
    | zero =>
      obtain ⟨r1, r2, h1, h2⟩ := h hs
      refine ⟨r1, r2, ?_, ?_⟩
      · rw [State.answer_lane1, hk, lanesAfter_zero, h1]
      · rw [State.answer_lane2, hk, lanesAfter_zero, h2]
    | succ k => exact .of_lanesAfter_succ hk

/-- What an answer owes has the shape of R39. -/
theorem Answer.owed_sound (a : Answer) (l : Word × Word) : (a.owed l).Sound := by
  cases a with
  | fail e he => exact ⟨fun _ => ⟨rfl, rfl⟩, fun _ => rfl⟩
  | seed raw => exact ⟨fun herror => absurd rfl herror, fun _ => rfl⟩
  | word positiveOnly => exact ⟨fun herror => absurd rfl herror, fun hbytes => absurd rfl hbytes⟩
  | bytes n => exact ⟨fun herror => absurd rfl herror, fun _ => rfl⟩

/-- An acceptance answers `OK` only on a block that is seeded then. -/
theorem State.seeded_of_accept_ok {s : State} {l : Word × Word} (h : (s.acceptAnswer.owed l).response.status = .ok) :
    (s.answer s.acceptAnswer).seeded = true := by
  rw [State.answer_seeded, Bool.or_eq_true]
  cases ha : s.acceptAnswer with
  | fail e he => rw [ha] at h; exact absurd h he
  | seed raw => exact .inl rfl
  | word positiveOnly => exact .inr (State.seeded_of_acceptAnswer_draws (by rw [ha]; rfl))
  | bytes n => exact .inr (State.seeded_of_acceptAnswer_draws (by rw [ha]; rfl))

theorem Flight.Sound.tail {b : Byte} {bs : List Byte} {r : Response} (h : Flight.Sound ⟨b :: bs, r⟩) :
    Flight.Sound ⟨bs, r⟩ := by
  obtain ⟨herror, hword⟩ := h
  have hok : r.status = .ok := by_contra fun hne => List.cons_ne_nil b bs (herror hne).1
  exact ⟨fun hne => absurd hok hne, fun _ => hword (List.cons_ne_nil b bs)⟩

/-- Every transition keeps the invariant. -/
theorem Transition.inv {s t : State} (h : Transition s t) (hinv : s.Inv) : t.Inv := by
  obtain ⟨hstaging, hshuffled, hsound⟩ := hinv
  cases h with
  | reset hrst => exact ⟨⟨rfl, rfl, rfl, rfl⟩, nofun, nofun⟩
  | takeByte hrst hflight hready =>
    obtain ⟨hshape, hok⟩ := hsound _ hflight
    refine ⟨hstaging, hshuffled, fun f hf => ?_⟩
    cases hf
    exact ⟨hshape.tail, hok⟩
  | takeResponse hrst hflight hready => exact ⟨hstaging, hshuffled, nofun⟩
  | accept hoffered =>
    refine ⟨s.answer_stagingZero _, s.answer_shuffled hshuffled _, fun f hf => ?_⟩
    cases hf
    exact ⟨Answer.owed_sound _ _, State.seeded_of_accept_ok⟩
  | holdByte | holdResponse | idle => exact ⟨hstaging, hshuffled, hsound⟩

/-- What a seeded block with the invariant holds: the result of an advancement (R12). -/
theorem State.Inv.shuffled {s : State} (h : s.Inv) (hseeded : s.seeded = true) : s.Shuffled := by
  obtain ⟨-, hshuffled, -⟩ := h
  exact hshuffled hseeded

/-- An unseeded block with the invariant owes an error, and no byte before it. -/
theorem State.Inv.flight_of_unseeded {s : State} {f : Flight} (h : s.Inv) (hseeded : s.seeded = false)
    (hflight : s.flight = some f) : f.bytes = [] ∧ f.response.status ≠ .ok ∧ f.response.word = 0#32 := by
  obtain ⟨-, -, hsound⟩ := h
  obtain ⟨⟨herror, -⟩, hok⟩ := hsound f hflight
  have hne : f.response.status ≠ .ok := fun heq => Bool.false_ne_true (hseeded.symm.trans (hok heq))
  obtain ⟨hbytes, hword⟩ := herror hne
  exact ⟨hbytes, hne, hword⟩

/-! ### The ports -/

theorem statusCode_toNat_le (c : Status) : (statusCode c).toNat ≤ 4 := by
  cases c <;> decide

/-- A command transfers exactly when it is offered to an idle block (R30). -/
theorem State.offered_iff_handshake (s : State) : (s.pins.cmdValid = true ∧ s.cmdReady = true) ↔ s.Offered := by
  simp only [State.cmdReady, State.Offered, Bool.and_eq_true, Bool.not_eq_true', Option.isNone_iff_eq_none]
  tauto

end Sys2Proof.Machine

namespace Sys2Proof

open Machine

/-! ### The statements about the invariant -/

/-- Settles O43: every transition keeps the invariant, and the host's ports have no part in it. -/
theorem everyStepKeepsTheInvariant : Obligations.EveryStepKeepsTheInvariant := by
  unfold Obligations.EveryStepKeepsTheInvariant
  intro s t hinv hstep
  obtain ⟨u, hu, rfl⟩ := exists_transition_of_step hstep
  exact u.hostMoves_inv_iff.mpr (hu.inv hinv)

/-- Settles O44: at reset the staging is zero, the flag is down and nothing is in flight. -/
theorem invariantAfterReset : Obligations.InvariantAfterReset := by
  unfold Obligations.InvariantAfterReset
  exact ⟨⟨rfl, rfl, rfl, rfl⟩, nofun, nofun⟩

/-- Settles O46: an unseeded block owes nothing but an error, so the one thing a step can give is its response. -/
theorem noOutputWhileUnseeded : Obligations.NoOutputWhileUnseeded := by
  unfold Obligations.NoOutputWhileUnseeded
  intro s hinv hseeded
  obtain ⟨t, ht⟩ := exists_transition s
  refine ⟨_, ht.step_eq, ?_⟩
  rw [State.hostMoves_received]
  cases ht with
  | reset hrst => exact .inr (.inl rfl)
  | takeByte hrst hflight hready =>
    obtain ⟨hbytes, -, -⟩ := hinv.flight_of_unseeded hseeded hflight
    cases hbytes
  | @takeResponse r hrst hflight hready =>
    obtain ⟨-, herror, hword⟩ := hinv.flight_of_unseeded hseeded hflight
    refine .inr (.inr ⟨r.status, herror, ?_⟩)
    rw [State.takeResponse_received, ← hword]
  | holdByte | holdResponse | accept | idle => exact .inl rfl

/-- Settles O47: the lanes are those of an advancement, with the range of R51 and the product of R52. -/
theorem seededLanesAreInRange : Obligations.SeededLanesAreInRange := by
  unfold Obligations.SeededLanesAreInRange
  intro s hinv hseeded
  obtain ⟨r1, r2, h1, h2⟩ := hinv.shuffled hseeded
  obtain ⟨hmin, hmax⟩ := lane1Sum_range (r1.extractLsb' 0 16) (r1.extractLsb' 16 16)
  rw [h1, h2, adv_lane1, adv_lane2, advLane1_toInt]
  exact ⟨hmin, hmax, _, Nat.mod_lt _ (by decide), advLane2_toNat r2⟩

/-- Settles O45: of the seven transitions reset lowers the flag, and an acceptance raises it when its answer seeds. -/
theorem seededFlagRule : Obligations.SeededFlagRule := by
  unfold Obligations.SeededFlagRule
  intro s
  obtain ⟨t, ht⟩ := exists_transition s
  refine ⟨_, ht.step_eq, ?_⟩
  rw [State.hostMoves_seeded, ← State.acceptAnswer_seeds_iff]
  cases ht with
  | reset hrst => simp [hrst]
  | takeByte hrst hflight hready => simp [State.Offered, hrst, hflight]
  | takeResponse hrst hflight hready => simp [State.Offered, hrst, hflight]
  | holdByte hrst hflight hready => simp [State.Offered, hrst, hflight]
  | holdResponse hrst hflight hready => simp [State.Offered, hrst, hflight]
  | idle hrst hflight hvalid => simp [State.Offered, hrst, hvalid]
  | accept hoffered =>
    obtain ⟨-, hrst, -⟩ := id hoffered
    simp [hoffered, hrst, or_comm]

/-! ### The statements about the ports -/

/-- Settles O10: in each of the seven transitions, what the ports offer and what the record grows by. -/
theorem channelsTransferWhenBothAreHigh : Obligations.ChannelsTransferWhenBothAreHigh := by
  unfold Obligations.ChannelsTransferWhenBothAreHigh
  intro s
  refine ⟨s.offered_iff_handshake, ?_⟩
  obtain ⟨t, ht⟩ := exists_transition s
  refine ⟨_, ht.step_eq, ?_⟩
  rw [State.hostMoves_received]
  unfold State.outValid State.rspValid
  cases ht with
  | reset hrst => simp [State.ports_of_rst hrst, hrst]
  | takeByte hrst hflight hready => simp [State.ports_of_byte hrst hflight, hrst, hready]
  | holdByte hrst hflight hready => simp [State.ports_of_byte hrst hflight, hrst, hready]
  | takeResponse hrst hflight hready => simp [State.ports_of_response hrst hflight, hrst, hready]
  | holdResponse hrst hflight hready => simp [State.ports_of_response hrst hflight, hrst, hready]
  | accept hoffered =>
    obtain ⟨hflight, hrst, -⟩ := hoffered
    simp [State.ports_of_idle hrst hflight, hrst]
  | idle hrst hflight hvalid => simp [State.ports_of_idle hrst hflight, hrst]

/-- Settles O9: the four conditions of the ports, reset, idle, a byte owed, a response owed. -/
theorem portsExcludeOneAnother : Obligations.PortsExcludeOneAnother := by
  unfold Obligations.PortsExcludeOneAnother State.outValid State.rspValid
  intro s
  refine ⟨fun hrst => ?_, fun hrst => ?_, fun c hc => ?_⟩
  · cases hflight : s.flight with
    | none => simp [State.ports_of_idle hrst hflight]
    | some f =>
      obtain ⟨_ | ⟨b, bs⟩, r⟩ := f
      · simp [State.ports_of_response hrst hflight]
      · simp [State.ports_of_byte hrst hflight]
  · simp [State.ports_of_rst hrst]
  · rw [State.rspStatus, Option.map_eq_some_iff] at hc
    obtain ⟨r, -, rfl⟩ := hc
    exact statusCode_toNat_le r.status

/-- Settles O11: the table evaluates. -/
theorem statusCodes : Obligations.StatusCodes := by
  unfold Obligations.StatusCodes
  decide

/-- Settles O14: the fields of `State.reset`, and the ports of an idle block. -/
theorem resetValues : Obligations.ResetValues := by
  unfold Obligations.ResetValues
  exact ⟨rfl, ⟨rfl, rfl, rfl, rfl⟩, rfl, rfl, rfl, rfl⟩

/-- Settles O15: the ports of a block in reset, and then those of an idle block, whatever `RST` is next. -/
theorem resetAbandonsTheCommand : Obligations.ResetAbandonsTheCommand := by
  unfold Obligations.ResetAbandonsTheCommand State.outValid State.rspValid
  intro s hrst
  have hnow := State.ports_of_rst hrst
  refine ⟨by simp [hnow], by simp [hnow], _, (Transition.reset hrst).step_eq, ?_⟩
  have hshown : s.takeReset.hostMoves.shownFlight = none := by simp [State.shownFlight]
  simp [State.StagingZero, State.outByte, State.rspOffer, State.cmdReady, hshown]

/-! ### The statements about one step -/

/-- Settles O7: an offer is accepted, and what the acceptance leaves is the answer; an idle block without one waits. -/
theorem stepRunsDecodedCommand : Obligations.StepRunsDecodedCommand := by
  unfold Obligations.StepRunsDecodedCommand
  refine ⟨fun s hoffered => ?_, fun s i hoffered hdecode => ?_, fun s e hoffered hdecode => ?_,
    fun s hflight hrst hvalid => ?_⟩
  · refine ⟨_, s.accept_eq_answer, ?_⟩
    rw [(Transition.accept hoffered).step_eq, State.hostMoves_eq]
  · refine ⟨_, exec_eq_answer i s, ?_⟩
    rw [(Transition.accept hoffered).step_eq, State.hostMoves_eq, State.acceptAnswer_of_decode hdecode]
  · rw [(Transition.accept hoffered).step_eq, State.hostMoves_eq, State.acceptAnswer_of_illegal hdecode]
    rfl
  · rw [(Transition.idle hrst hflight hvalid).step_eq, State.hostMoves_eq]

/-- Settles O8: the byte or the response is on the ports, and the step takes or holds it. -/
theorem transfersInOrder : Obligations.TransfersInOrder := by
  unfold Obligations.TransfersInOrder State.outValid State.rspValid
  rintro s ⟨bytes, r⟩ hrst hflight
  constructor
  · rintro b bs rfl
    obtain ⟨-, hout, hrsp⟩ := State.ports_of_byte hrst hflight
    exact ⟨hout, by rw [hrsp]; rfl, step_of_byte hrst hflight⟩
  · rintro rfl
    obtain ⟨-, hout, hrsp⟩ := State.ports_of_response hrst hflight
    exact ⟨by rw [hout]; rfl, hrsp, step_of_response hrst hflight⟩

/-- Settles O12: of the ports a busy block's step reads `RST` and the two `READY` levels, and then replaces them all. -/
theorem busyBlockIgnoresCommandPorts : Obligations.BusyBlockIgnoresCommandPorts := by
  unfold Obligations.BusyBlockIgnoresCommandPorts
  intro s f p hflight hrst' hout hrsp
  cases hrst : s.pins.rst with
  | true =>
    rw [step_of_rst hrst, step_of_rst (s := { s with pins := p }) (hrst'.trans hrst)]
    rfl
  | false =>
    obtain ⟨_ | ⟨b, bs⟩, r⟩ := f
    · rw [step_of_response hrst hflight, step_of_response (s := { s with pins := p }) (hrst'.trans hrst) hflight, hrsp]
    · rw [step_of_byte hrst hflight, step_of_byte (s := { s with pins := p }) (hrst'.trans hrst) hflight, hout]

end Sys2Proof
end

section
/-!
PROOFS of the statements about runs: any number of steps can be taken, a command in flight ends, an ended run stays ended,
and two blocks the host cannot tell apart go through the same transitions and stay so.
-/

namespace Sys2Proof.Machine

/-! ### Runs -/

theorem StepsTo.cons {k : Nat} {s u t : State} (hstep : step s = .next u) (hrest : StepsTo k u t) :
    StepsTo (k + 1) s t :=
  ⟨u, hstep, hrest⟩

theorem exists_step (s : State) : ∃ t, step s = .next t := by
  obtain ⟨u, hu⟩ := exists_transition s
  exact ⟨_, hu.step_eq⟩

theorem exists_stepsTo (k : Nat) (s : State) : ∃ t, StepsTo k s t := by
  induction k generalizing s with
  | zero => exact ⟨s, rfl⟩
  | succ k ih =>
    obtain ⟨u, hu⟩ := exists_step s
    obtain ⟨t, ht⟩ := ih u
    exact ⟨t, .cons hu ht⟩

/-- While the host takes what is offered, the bytes owed go to the record one a step, and then the response. -/
theorem stepsTo_of_accepting (bytes : List Byte) (r : Response) {s : State} (hflight : s.flight = some ⟨bytes, r⟩)
    (hmoves : bytes.length ≤ s.moves.length) (haccepts : ∀ p ∈ s.pins :: s.moves.take bytes.length, p.Accepts) :
    StepsTo (bytes.length + 1) s { s with
      flight := none
      received := s.received ++ bytes.map .byte ++ [.response r]
      pins := (s.moves.drop bytes.length).headD Inputs.quiet
      moves := s.moves.drop (bytes.length + 1) } := by
  obtain ⟨hrst, hout, hrsp⟩ := haccepts s.pins List.mem_cons_self
  induction bytes generalizing s with
  | nil =>
    refine .cons (step_of_response hrst hflight) ?_
    simp [StepsTo, hrsp]
  | cons b bs ih =>
    obtain ⟨p, rest, hs⟩ : ∃ p rest, s.moves = p :: rest :=
      List.exists_cons_of_length_pos (Nat.lt_of_lt_of_le (Nat.succ_pos bs.length) hmoves)
    rw [hs, List.length_cons, List.take_succ_cons] at haccepts
    rw [hs, List.length_cons, List.length_cons, Nat.add_le_add_iff_right] at hmoves
    have hnext : ∀ q ∈ p :: rest.take bs.length, q.Accepts := fun q hq => haccepts q (List.mem_cons_of_mem _ hq)
    obtain ⟨hrst', hout', hrsp'⟩ := hnext p List.mem_cons_self
    have hstep := (Transition.takeByte hrst hflight hout).step_eq
    rw [State.hostMoves_eq, State.takeByte_moves, hs] at hstep
    have hrest := ih (s := { s.takeByte b ⟨b :: bs, r⟩ with pins := p, moves := rest }) rfl hmoves hnext hrst' hout' hrsp'
    refine .cons hstep ?_
    simpa [hs] using hrest

/-! ### The end of a run (R94) -/

theorem State.runEnded_iff (s : State) :
    s.runEnded = true ↔ s.moves = [] ∧ s.pins.rst = false ∧ s.pins.cmdValid = false ∧ s.flight = none := by
  simp [State.runEnded, and_assoc]

/-- The step of an ended run changes the ports only. -/
theorem step_of_runEnded {s : State} (h : s.runEnded = true) : step s = .next { s with pins := Inputs.quiet } := by
  obtain ⟨hmoves, hrst, hvalid, hflight⟩ := s.runEnded_iff.mp h
  rw [(Transition.idle hrst hflight hvalid).step_eq, State.hostMoves_eq, hmoves]
  rfl

theorem State.runEnded_quiet {s : State} (h : s.runEnded = true) :
    ({ s with pins := Inputs.quiet } : State).runEnded = true := by
  obtain ⟨hmoves, -, -, hflight⟩ := s.runEnded_iff.mp h
  exact (State.runEnded_iff _).mpr ⟨hmoves, rfl, rfl, hflight⟩

theorem StepsTo.of_runEnded {k : Nat} {s t : State} (hended : s.runEnded = true) (h : StepsTo k s t) :
    t.runEnded = true ∧ t = { s with pins := t.pins } := by
  induction k generalizing s with
  | zero =>
    cases h
    exact ⟨hended, rfl⟩
  | succ k ih =>
    obtain ⟨u, hstep, hrest⟩ := h
    rw [step_of_runEnded hended] at hstep
    cases hstep
    obtain ⟨hstill, hsame⟩ := ih (State.runEnded_quiet hended) hrest
    exact ⟨hstill, hsame⟩

/-! ### The record of an idle block (R94) -/

/-- A transition that leaves the block idle leaves the record as it was, or ends it with a response or a reset. -/
theorem Transition.recordClosed {s t : State} (h : Transition s t)
    (hclosed : s.flight = none → recordClosed s.received = true) (hidle : t.flight = none) :
    recordClosed t.received = true := by
  cases h with
  | reset hrst => simp [Machine.recordClosed]
  | takeByte hrst hflight hready => cases hidle
  | takeResponse hrst hflight hready => simp [Machine.recordClosed]
  | accept hoffered => cases hidle
  | holdByte | holdResponse | idle => exact hclosed hidle

/-- What the last entry of a closed record can be. -/
theorem getLast?_of_recordClosed {record : List Event} (h : recordClosed record = true) (hne : record ≠ []) :
    (∃ r, record.getLast? = some (.response r)) ∨ record.getLast? = some .reset := by
  have hlast := List.getLast?_eq_some_getLast hne
  rw [recordClosed, hlast] at h
  cases he : record.getLast hne with
  | byte b => rw [he] at h; cases h
  | response r => exact .inl ⟨r, by rw [hlast, he]⟩
  | reset => exact .inr (by rw [hlast, he])

/-! ### Two blocks the host cannot tell apart (R12, R13, R14) -/

theorem Answer.lanes_congr {a : Answer} {l l' : Word × Word} (h : a.seeds = false → l = l') : a.lanes l = a.lanes l' := by
  cases a with
  | seed raw => rfl
  | fail e he => rw [h rfl]
  | word positiveOnly => rw [h rfl]
  | bytes n => rw [h rfl]

theorem Answer.owed_congr {a : Answer} {l l' : Word × Word} (h : a.draws = true → l = l') : a.owed l = a.owed l' := by
  cases a with
  | seed raw => rfl
  | fail e he => rfl
  | word positiveOnly => rw [h rfl]
  | bytes n => rw [h rfl]

theorem SameToHost.hostMoves {s t : State} (h : SameToHost s t) : SameToHost s.hostMoves t.hostMoves := by
  obtain ⟨hseeded, hlanes, hflight, hpins, hmoves⟩ := h
  simp only [SameToHost, State.hostMoves_seeded, State.hostMoves_lane1, State.hostMoves_lane2, State.hostMoves_flight,
    State.hostMoves_pins, State.hostMoves_moves, hmoves, and_true]
  exact ⟨hseeded, hlanes, hflight⟩

/-- One answer keeps two blocks alike: it seeds both from the same raw lanes, or reads only lanes that agree. -/
theorem SameToHost.answer {s t : State} (h : SameToHost s t) {a : Answer} (hdraws : a.draws = true → s.seeded = true) :
    SameToHost (s.answer a) (t.answer a) := by
  obtain ⟨hseeded, hlanes, hflight, hpins, hmoves⟩ := h
  have hpair (hs : s.seeded = true) : (s.lane1, s.lane2) = (t.lane1, t.lane2) := Prod.mk_inj.mpr (hlanes hs)
  refine ⟨congrArg (a.seeds || ·) hseeded, fun hs => ?_, congrArg some (Answer.owed_congr (hpair ∘ hdraws)), hpins, hmoves⟩
  have hafter : a.lanes (s.lane1, s.lane2) = a.lanes (t.lane1, t.lane2) :=
    Answer.lanes_congr fun hnot => hpair (by rwa [State.answer_seeded, hnot, Bool.false_or] at hs)
  exact ⟨congrArg Prod.fst hafter, congrArg Prod.snd hafter⟩

/-- Two blocks alike to the host go through the same transition, give it the same events, and stay alike. -/
theorem SameToHost.transition {s t u : State} (h : SameToHost s t) (hu : Transition s u) :
    ∃ v evs, Transition t v ∧ u.received = s.received ++ evs ∧ v.received = t.received ++ evs ∧ SameToHost u v := by
  have hsame := h
  obtain ⟨hseeded, hlanes, hflight, hpins, hmoves⟩ := hsame
  cases hu with
  | reset hrst =>
    exact ⟨_, _, .reset (hpins ▸ hrst), rfl, rfl, rfl, nofun, rfl, hpins, hmoves⟩
  | takeByte hrst hbusy hready =>
    exact ⟨_, _, .takeByte (hpins ▸ hrst) (hflight ▸ hbusy) (hpins ▸ hready), rfl, rfl, hseeded, hlanes, rfl, hpins, hmoves⟩
  | holdByte hrst hbusy hready =>
    exact ⟨_, [], .holdByte (hpins ▸ hrst) (hflight ▸ hbusy) (hpins ▸ hready), by simp, by simp, h⟩
  | takeResponse hrst hbusy hready =>
    exact ⟨_, _, .takeResponse (hpins ▸ hrst) (hflight ▸ hbusy) (hpins ▸ hready), rfl, rfl, hseeded, hlanes, rfl, hpins,
      hmoves⟩
  | holdResponse hrst hbusy hready =>
    exact ⟨_, [], .holdResponse (hpins ▸ hrst) (hflight ▸ hbusy) (hpins ▸ hready), by simp, by simp, h⟩
  | accept hoffered =>
    refine ⟨_, [], .accept ?_, by simp, by simp, ?_⟩
    · rwa [State.Offered, ← hflight, ← hpins]
    · rw [← State.acceptAnswer_congr hseeded hpins]
      exact h.answer State.seeded_of_acceptAnswer_draws
  | idle hrst hidle hvalid =>
    exact ⟨_, [], .idle (hpins ▸ hrst) (hflight ▸ hidle) (hpins ▸ hvalid), by simp, by simp, h⟩

theorem SameToHost.step {s t : State} (h : SameToHost s t) :
    ∃ s' t' evs, Machine.step s = .next s' ∧ Machine.step t = .next t' ∧ s'.received = s.received ++ evs ∧
      t'.received = t.received ++ evs ∧ SameToHost s' t' := by
  obtain ⟨u, hu⟩ := exists_transition s
  obtain ⟨v, evs, hv, hrecs, hrect, hsame⟩ := h.transition hu
  exact ⟨_, _, evs, hu.step_eq, hv.step_eq, by rwa [State.hostMoves_received], by rwa [State.hostMoves_received],
    hsame.hostMoves⟩

/-- Two blocks alike to the host stay so for any number of steps, and give it the same events. -/
theorem SameToHost.stepsTo (k : Nat) {s t : State} (h : SameToHost s t) :
    ∃ s' t' evs, StepsTo k s s' ∧ StepsTo k t t' ∧ s'.received = s.received ++ evs ∧ t'.received = t.received ++ evs ∧
      SameToHost s' t' := by
  induction k generalizing s t with
  | zero => exact ⟨s, t, [], rfl, rfl, by simp, by simp, h⟩
  | succ k ih =>
    obtain ⟨s1, t1, evs1, hs1, ht1, hrecs1, hrect1, h1⟩ := h.step
    obtain ⟨s', t', evs, hs', ht', hrecs, hrect, h'⟩ := ih h1
    refine ⟨s', t', evs1 ++ evs, .cons hs1 hs', .cons ht1 ht', ?_, ?_, h'⟩
    · rw [hrecs, hrecs1, List.append_assoc]
    · rw [hrect, hrect1, List.append_assoc]

/-! ### Seeding makes two blocks alike (R40, property S1) -/

/-- Two blocks that are seeded alike and see the same moves are alike from then on, whatever they were before. -/
theorem sameToHost_of_seeding {a : Answer} (ha : a.seeds = true) {s t : State} (hmoves : s.moves = t.moves) :
    SameToHost (s.answer a).hostMoves (t.answer a).hostMoves := by
  have hlanes : a.lanes (s.lane1, s.lane2) = a.lanes (t.lane1, t.lane2) :=
    Answer.lanes_congr fun hnot => absurd (ha.symm.trans hnot) (by decide)
  have howed : a.owed (s.lane1, s.lane2) = a.owed (t.lane1, t.lane2) := by
    cases a with
    | seed raw => rfl
    | fail e he => cases ha
    | word positiveOnly => cases ha
    | bytes n => cases ha
  simp [SameToHost, ha, hlanes, howed, hmoves]

end Sys2Proof.Machine

namespace Sys2Proof

open Machine

/-! ### The statements -/

/-- Settles O39: every command is answered, and every state has a transition. -/
theorem nothingStopsTheMachine : Obligations.NothingStopsTheMachine := by
  unfold Obligations.NothingStopsTheMachine
  exact ⟨fun i s => ⟨_, _, exec_eq_answer i s, rfl⟩, exists_step, exists_stepsTo⟩

/-- Settles O13: by induction on the bytes owed. -/
theorem everyCommandEnds : Obligations.EveryCommandEnds := by
  unfold Obligations.EveryCommandEnds
  exact fun s f => stepsTo_of_accepting f.bytes f.response

/-- Settles O16: each step of an ended run changes the ports only, so any number of them does. -/
theorem endedRunStaysEnded : Obligations.EndedRunStaysEnded := by
  unfold Obligations.EndedRunStaysEnded
  intro k s t hended hsteps
  obtain ⟨hstill, hsame⟩ := hsteps.of_runEnded hended
  exact ⟨hstill, hsame, by rw [hsame]; rfl⟩

/-- Settles O17: every transition keeps it, and an ended run is idle, so its last entry is no byte. -/
theorem idleRecordIsClosed : Obligations.IdleRecordIsClosed := by
  unfold Obligations.IdleRecordIsClosed
  refine ⟨fun s t hclosed hstep hidle => ?_, ⟨rfl, rfl⟩, fun s hclosed hended hne => ?_⟩
  · obtain ⟨u, hu, rfl⟩ := exists_transition_of_step hstep
    rw [State.hostMoves_flight] at hidle
    rw [State.hostMoves_received]
    exact hu.recordClosed hclosed hidle
  · obtain ⟨-, -, -, hidle⟩ := s.runEnded_iff.mp hended
    exact getLast?_of_recordClosed (hclosed hidle) hne

/-- Settles O37: the error leaves lanes and flag, and the step after it takes the response and leaves the block idle. -/
theorem failedCommandLeavesNoTrace : Obligations.FailedCommandLeavesNoTrace := by
  unfold Obligations.FailedCommandLeavesNoTrace
  intro s t u f p q rest hoffered hmoves hrst hready hstep hflight herror hnext
  rw [(Transition.accept hoffered).step_eq] at hstep
  cases hstep
  rw [State.hostMoves_flight] at hflight
  cases hflight
  obtain ⟨e, he, ha⟩ := Answer.eq_fail_of_status herror
  rw [ha] at hnext ⊢
  have hbusy : (s.answer (.fail e he)).hostMoves.flight = some ⟨[], ⟨e, 0#32⟩⟩ := by simp [Answer.owed]
  have hpins : (s.answer (.fail e he)).hostMoves.pins = p := by simp [hmoves]
  rw [(Transition.takeResponse (by rwa [hpins]) hbusy (by rwa [hpins])).step_eq] at hnext
  cases hnext
  obtain ⟨hidle, -⟩ := hoffered
  simp [SameToHost, Answer.lanes, Answer.seeds, Answer.owed, hidle, hmoves]

/-- Settles O48: `SameToHost.stepsTo`. -/
theorem hiddenStateStaysHidden : Obligations.HiddenStateStaysHidden := by
  unfold Obligations.HiddenStateStaysHidden
  exact fun k s t h => h.stepsTo k

/-- Settles O27: both blocks give the same answer, which seeds, so they are alike after the acceptance. -/
theorem sameSeedSameStream : Obligations.SameSeedSameStream := by
  unfold Obligations.SameSeedSameStream
  intro k s t i tick hoffered htflight htpins htmoves hdecode hseed htick hne
  have htoffered : t.Offered := by
    obtain ⟨-, hrst, hvalid⟩ := hoffered
    exact ⟨htflight, htpins ▸ hrst, htpins ▸ hvalid⟩
  have htdecode : decode t.pins.cmdWord t.pins.cmdData = .ok i := by rw [htpins]; exact hdecode
  have hsame : t.acceptAnswer = s.acceptAnswer := by
    rw [State.acceptAnswer_of_decode hdecode, State.acceptAnswer_of_decode htdecode,
      answerTo_of_isSeed hseed t.seeded s.seeded, answerTo_tick htick]
  have hseeds : s.acceptAnswer.seeds = true := s.acceptAnswer_seeds_iff.mpr ⟨i, hdecode, hseed, hne⟩
  obtain ⟨s', t', evs, hs', ht', hrecs, hrect, hhost⟩ := (sameToHost_of_seeding hseeds htmoves.symm).stepsTo k
  rw [State.hostMoves_received] at hrecs hrect
  exact ⟨s', t', evs, .cons (Transition.accept hoffered).step_eq hs',
    .cons (hsame ▸ (Transition.accept htoffered).step_eq) ht', hrecs, hrect, hhost⟩

end Sys2Proof
end

section
/-!
PROOFS of the statements of spec/42_extract.md section 4 (R67): the small steps DRAW, EMIT and DONE keep the pipeline on the
stream of its starting lanes, whatever `OUT_READY` is, and with `OUT_READY` at 1 each of them is one unit of work.
-/

namespace Sys2Proof.Machine

/-! ### The small steps stay on the stream -/

/-- What every small step keeps, for the stream of lanes `l` and the length `n`: the words of the groups begun have been
drawn and at most one more, the lanes have advanced once a word, `wbuf` holds the word of the group in hand, and the bytes
emitted are the stream's. -/
structure Pipe.OnStream (l : Word × Word) (n : Nat) (p : Pipe) : Prop where
  length_eq : p.length = n
  index_le : p.index ≤ n
  wordsFor_index_le : wordsFor p.index ≤ p.drawn
  drawn_le_group : p.drawn ≤ p.index / 4 + 1
  drawn_le : p.drawn ≤ wordsFor n
  lanes_eq : (p.lane1, p.lane2) = lanesAfter p.drawn l
  wbuf_eq : p.done = false → p.index / 4 < p.drawn → p.wbuf = leBytes4 (drawnWord (p.index / 4) l)
  emitted_eq : p.emitted = (List.range p.index).map (streamByte l)
  done_end : p.done = true → p.index = n ∧ p.wbuf = zeros4

theorem Pipe.start_onStream (n : Nat) (s : State) : (Pipe.start n s).OnStream (s.lane1, s.lane2) n where
  length_eq := rfl
  index_le := Nat.zero_le n
  wordsFor_index_le := show wordsFor 0 ≤ 0 by decide
  drawn_le_group := Nat.zero_le _
  drawn_le := Nat.zero_le _
  lanes_eq := rfl
  wbuf_eq _ h := absurd (show 0 / 4 < 0 from h) (by decide)
  emitted_eq := rfl
  done_end := nofun

section

variable {l : Word × Word} {n : Nat} {p : Pipe} (h : p.OnStream l n)

include h

/-- At the end of the bytes every word has been drawn. -/
theorem Pipe.OnStream.drawn_of_end (hend : p.index = n) : p.drawn = wordsFor n :=
  Nat.le_antisymm h.drawn_le (hend ▸ h.wordsFor_index_le)

/-- The byte emitted from the group in hand is the stream's. -/
theorem Pipe.OnStream.emitted_byte (hdone : p.done = false) (hgroup : p.index / 4 < p.drawn) :
    p.wbuf[p.index % 4]'(Nat.mod_lt p.index (by decide)) = streamByte l p.index := by
  simp only [h.wbuf_eq hdone hgroup, leBytes4_get, streamByte]

theorem Pipe.OnStream.emit (hdone : p.done = false) (hindex : p.index < n) (hgroup : p.index / 4 < p.drawn) :
    p.emit.OnStream l n where
  length_eq := h.length_eq
  index_le := hindex
  wordsFor_index_le := by
    show wordsFor (p.index + 1) ≤ p.drawn
    rw [wordsFor_succ]
    exact hgroup
  drawn_le_group := by
    have := h.drawn_le_group
    show p.drawn ≤ (p.index + 1) / 4 + 1
    omega
  drawn_le := h.drawn_le
  lanes_eq := h.lanes_eq
  wbuf_eq _ hnext := by
    have hin : (p.index + 1) / 4 < p.drawn := hnext
    have hsame : (p.index + 1) / 4 = p.index / 4 := by have := h.drawn_le_group; omega
    show p.wbuf = leBytes4 (drawnWord ((p.index + 1) / 4) l)
    rw [hsame, h.wbuf_eq hdone hgroup]
  emitted_eq := by
    show p.emitted ++ [p.wbuf[p.index % 4]'_] = (List.range (p.index + 1)).map (streamByte l)
    rw [h.emitted_byte hdone hgroup, h.emitted_eq, List.range_succ, List.map_append, List.map_singleton]
  done_end hdone' := absurd (hdone.symm.trans hdone') Bool.false_ne_true

theorem Pipe.OnStream.draw (hdone : p.done = false) (hindex : p.index < n) (hgroup : ¬ p.index / 4 < p.drawn) :
    p.draw.OnStream l n := by
  have hdrawn : p.drawn = p.index / 4 := by
    have hle := h.wordsFor_index_le
    rw [wordsFor] at hle
    omega
  have hlanes := h.lanes_eq
  rw [hdrawn] at hlanes
  exact
    { length_eq := h.length_eq
      index_le := h.index_le
      wordsFor_index_le := Nat.le_succ_of_le h.wordsFor_index_le
      drawn_le_group := by
        show p.drawn + 1 ≤ p.index / 4 + 1
        rw [hdrawn]
      drawn_le := by
        show p.drawn + 1 ≤ wordsFor n
        rw [wordsFor]
        omega
      lanes_eq := by
        show ((adv p.lane1 p.lane2).lane1, (adv p.lane1 p.lane2).lane2) = lanesAfter (p.drawn + 1) l
        rw [hdrawn, lanesAfter_succ, ← hlanes]
      wbuf_eq := fun _ _ => by
        show leBytes4 (adv p.lane1 p.lane2).raw = leBytes4 (drawnWord (p.index / 4) l)
        rw [drawnWord, ← hlanes]
      emitted_eq := h.emitted_eq
      done_end := fun hdone' => absurd (hdone.symm.trans hdone') Bool.false_ne_true }

theorem Pipe.OnStream.finish (hindex : ¬ p.index < n) : p.finish.OnStream l n where
  length_eq := h.length_eq
  index_le := h.index_le
  wordsFor_index_le := h.wordsFor_index_le
  drawn_le_group := h.drawn_le_group
  drawn_le := h.drawn_le
  lanes_eq := h.lanes_eq
  wbuf_eq hdone := nomatch hdone
  emitted_eq := h.emitted_eq
  done_end _ := ⟨Nat.le_antisymm h.index_le (Nat.le_of_not_lt hindex), rfl⟩

/-- What a small step can be on the stream. -/
theorem Pipe.OnStream.next_cases (outReady : Bool) :
    (p.done = true ∧ p.next outReady = p) ∨
    (p.done = false ∧ p.index < n ∧ p.index / 4 < p.drawn ∧ p.next outReady = if outReady then p.emit else p) ∨
    (p.done = false ∧ p.index < n ∧ ¬ p.index / 4 < p.drawn ∧ p.next outReady = p.draw) ∨
    (p.done = false ∧ ¬ p.index < n ∧ p.next outReady = p.finish) := by
  have hlength := h.length_eq
  cases hdone : p.done with
  | true => simp [Pipe.next, hdone]
  | false =>
    by_cases hindex : p.index < n
    · by_cases hgroup : p.index / 4 < p.drawn <;> simp [Pipe.next, Pipe.groupDrawn, hdone, hlength, hindex, hgroup]
    · simp [Pipe.next, hdone, hlength, hindex]

/-- Every small step stays on the stream. -/
theorem Pipe.OnStream.next (outReady : Bool) : (p.next outReady).OnStream l n := by
  obtain ⟨-, heq⟩ | ⟨hdone, hindex, hgroup, heq⟩ | ⟨hdone, hindex, hgroup, heq⟩ | ⟨-, hindex, heq⟩ :=
    h.next_cases outReady <;> rw [heq]
  · exact h
  · cases outReady with
    | true => exact h.emit hdone hindex hgroup
    | false => exact h
  · exact h.draw hdone hindex hgroup
  · exact h.finish hindex

end

theorem Pipe.OnStream.run {l : Word × Word} {n : Nat} (ready : List Bool) {p : Pipe} (h : p.OnStream l n) :
    (Pipe.run ready p).OnStream l n := by
  induction ready generalizing p with
  | nil => exact h
  | cons outReady rest ih => exact ih (h.next outReady)

/-! ### The bytes of the pipeline against those of the atomic step (R67) -/

/-- The stream's bytes up to an index begin those up to a later one. -/
theorem map_streamByte_prefix (l : Word × Word) {m n : Nat} (h : m ≤ n) :
    (List.range m).map (streamByte l) <+: (List.range n).map (streamByte l) := by
  obtain ⟨k, rfl⟩ := Nat.exists_eq_add_of_le h
  rw [List.range_add, List.map_append]
  exact List.prefix_append _ _

/-! ### The work of the pipeline (R89) -/

/-- How many small steps have been more than a wait: one a word, one a byte, and DONE. -/
def Pipe.work (p : Pipe) : Nat := p.drawn + p.index + if p.done then 1 else 0

section

variable {l : Word × Word} {n : Nat} {p : Pipe} (h : p.OnStream l n)

include h

/-- DONE is the last unit of the work. -/
theorem Pipe.OnStream.done_iff_work : p.done = true ↔ p.work = wordsFor n + n + 1 := by
  have hdrawn := h.drawn_le
  have hindex := h.index_le
  cases hdone : p.done with
  | true =>
    obtain ⟨hend, -⟩ := h.done_end hdone
    simp [Pipe.work, hdone, h.drawn_of_end hend, hend]
  | false =>
    have hwork : p.work = p.drawn + p.index := by simp [Pipe.work, hdone]
    simp only [Bool.false_eq_true, false_iff]
    omega

/-- With `OUT_READY` at 1 a step of an unfinished pipeline is one unit of work. -/
theorem Pipe.OnStream.work_next (hdone : p.done = false) : (p.next true).work = p.work + 1 := by
  obtain ⟨hdone', -⟩ | ⟨-, -, -, heq⟩ | ⟨-, -, -, heq⟩ | ⟨-, -, heq⟩ := h.next_cases true
  · exact absurd (hdone.symm.trans hdone') Bool.false_ne_true
  · simp [heq, Pipe.work, Pipe.emit, hdone, Nat.add_assoc]
  · simp [heq, Pipe.work, Pipe.draw, hdone, Nat.add_right_comm]
  · simp [heq, Pipe.work, Pipe.finish, hdone]

end

/-- With `OUT_READY` at 1, as many units of work are done as steps are taken, until all is done. -/
theorem Pipe.OnStream.work_run {l : Word × Word} {n k : Nat} {p : Pipe} (h : p.OnStream l n)
    (hk : p.work + k ≤ wordsFor n + n + 1) : (Pipe.run (List.replicate k true) p).work = p.work + k := by
  induction k generalizing p with
  | zero => rfl
  | succ k ih =>
    have hdone : p.done = false := by
      rw [Bool.eq_false_iff, ne_eq, h.done_iff_work]
      omega
    have hwork := h.work_next hdone
    rw [List.replicate_succ, Pipe.run, ih (h.next true) (by omega), hwork, Nat.add_right_comm, Nat.add_assoc]

/-- The work of `k` steps from the start. -/
theorem Pipe.work_run_start {n k : Nat} (s : State) (hk : k ≤ wordsFor n + n + 1) :
    (Pipe.run (List.replicate k true) (Pipe.start n s)).work = k := by
  have hstart : (Pipe.start n s).work = 0 := rfl
  rw [(Pipe.start_onStream n s).work_run (by omega), hstart, Nat.zero_add]

end Sys2Proof.Machine

namespace Sys2Proof

open Machine

/-! ### The statements -/

/-- Settles O32: the pipeline is on the stream that the atomic step takes, and done at its end. -/
theorem pipelineRefinesExtraction : Obligations.PipelineRefinesExtraction := by
  unfold Obligations.PipelineRefinesExtraction
  intro n s ready
  have hrun := (Pipe.start_onStream n s).run ready
  refine ⟨_, s.extract_flight n, ?_, fun hdone => ?_⟩
  · rw [hrun.emitted_eq]
    exact map_streamByte_prefix _ hrun.index_le
  · obtain ⟨hend, hwiped⟩ := hrun.done_end hdone
    have hlanes := hrun.lanes_eq
    rw [hrun.drawn_of_end hend, ← s.extract_lanes n] at hlanes
    obtain ⟨hlane1, hlane2⟩ := Prod.mk.inj hlanes
    exact ⟨by rw [hrun.emitted_eq, hend], hlane1, hlane2, hwiped⟩

/-- Settles O33: the work of the whole is a word's draw for each group, `n` bytes and DONE, one a step. -/
theorem pipelineFinishes : Obligations.PipelineFinishes := by
  unfold Obligations.PipelineFinishes
  intro n s
  have hrun (k : Nat) := (Pipe.start_onStream n s).run (List.replicate k true)
  have hdone : (Pipe.run (List.replicate (wordsFor n + n + 1) true) (Pipe.start n s)).done = true := by
    rw [(hrun _).done_iff_work, Pipe.work_run_start s (Nat.le_refl _)]
  refine ⟨?_, hdone, ?_⟩
  · rw [Bool.eq_false_iff, ne_eq, (hrun _).done_iff_work, Pipe.work_run_start s (Nat.le_succ _)]
    omega
  · obtain ⟨hend, -⟩ := (hrun _).done_end hdone
    exact (hrun _).drawn_of_end hend

end Sys2Proof
end
